-- ==== Sys2Proof/Word.lean ====
section
/-! DEFINITION. The values of the hardware: bytes, 32-bit words and lane vectors
(00_scope.md R8, R9; 40_lane_vector.md R145 (b): every value is unsigned). -/

namespace Sys2Proof

/-- One byte of a stream: the seed FIFO, OUT, an entropy answer (20_memory.md R60). -/
abbrev Byte := BitVec 8

/-- A 32-bit register value or command word (10_state.md R30, 30_encoding.md R90). -/
abbrev Word := BitVec 32

/-- A lane vector `uW×N`, lane 0 first (00_scope.md R9). The lane count N is the list's length. -/
abbrev Vec (W : Nat) := List (BitVec W)

/-- A mask `mask×N`: N booleans, lane 0 first (00_scope.md R9, 40_lane_vector.md R132). -/
abbrev Mask := List Bool

end Sys2Proof
end

