-- ==== Sys2Proof/Syntax.lean ====
section
/-! DEFINITION. The syntax: the families, the lane counts, and one constructor of `Instr` for every row
of spec/opcode_table.json (30_encoding.md R92 to R94, R102). -/

namespace Sys2Proof

/-- The lane counts a lane-parallel family may take (30_encoding.md R94: LN codes 1 to 4). -/
inductive Lanes where
  | x2
  | x4
  | x8
  | x16
deriving DecidableEq, Repr

/-- The lane count N (30_encoding.md R94). -/
def Lanes.count : Lanes → Nat
  | .x2 => 2
  | .x4 => 4
  | .x8 => 8
  | .x16 => 16

/-- The 28 families (30_encoding.md R93), in the order of their codes. -/
inductive Fam where
  | xorshift32
  | xorshift128
  | xorshift128plus
  | xoroshiro128ss
  | xoshiro128ss
  | xoshiro256ss
  | xoshiro512ss
  | pcg32
  | pcg32Xsh
  | pcg32Xsl
  | lcg32
  | lcg16
  | jsf32
  | jsf64
  | lfsr113
  | lfsr258
  | mwc
  | sfc64
  | sfc32
  | sfc16
  | xsm32
  | xsm64
  | chacha4
  | chacha4f
  | ars5
  | ars7
  | aesrand
  | sselcg
deriving DecidableEq, Repr

/-- The six families of one fixed shape, which take LN = 0 (10_state.md R22, 30_encoding.md R94). -/
def Fam.isFixed : Fam → Bool
  | .xorshift32 => false
  | .xorshift128 => false
  | .xorshift128plus => false
  | .xoroshiro128ss => false
  | .xoshiro128ss => false
  | .xoshiro256ss => false
  | .xoshiro512ss => false
  | .pcg32 => false
  | .pcg32Xsh => false
  | .pcg32Xsl => false
  | .lcg32 => false
  | .lcg16 => false
  | .jsf32 => false
  | .jsf64 => false
  | .lfsr113 => false
  | .lfsr258 => false
  | .mwc => false
  | .sfc64 => false
  | .sfc32 => false
  | .sfc16 => false
  | .xsm32 => false
  | .xsm64 => false
  | .chacha4 => true
  | .chacha4f => true
  | .ars5 => true
  | .ars7 => true
  | .aesrand => true
  | .sselcg => true

/-- The commands, one constructor per row of spec/opcode_table.json. The operand of a lane-parallel row is
its lane count; a fixed-shape row has none (30_encoding.md R91, R94). -/
inductive Instr where
  | nop
  | clrerr
  | reset
  | seedRngXorshift32 (n : Lanes)
  | seedRngXorshift128 (n : Lanes)
  | seedRngXorshift128plus (n : Lanes)
  | seedRngXoroshiro128ss (n : Lanes)
  | seedRngXoshiro128ss (n : Lanes)
  | seedRngXoshiro256ss (n : Lanes)
  | seedRngXoshiro512ss (n : Lanes)
  | seedRngPcg32 (n : Lanes)
  | seedRngPcg32Xsh (n : Lanes)
  | seedRngPcg32Xsl (n : Lanes)
  | seedRngLcg32 (n : Lanes)
  | seedRngLcg16 (n : Lanes)
  | seedRngJsf32 (n : Lanes)
  | seedRngJsf64 (n : Lanes)
  | seedRngLfsr113 (n : Lanes)
  | seedRngLfsr258 (n : Lanes)
  | seedRngMwc (n : Lanes)
  | seedRngSfc64 (n : Lanes)
  | seedRngSfc32 (n : Lanes)
  | seedRngSfc16 (n : Lanes)
  | seedRngXsm32 (n : Lanes)
  | seedRngXsm64 (n : Lanes)
  | seedRngChacha4
  | seedRngChacha4f
  | seedRngArs5
  | seedRngArs7
  | seedRngAesrand
  | seedRngSselcg
  | seedBlocksXorshift32 (n : Lanes)
  | seedBlocksXorshift128 (n : Lanes)
  | seedBlocksXorshift128plus (n : Lanes)
  | seedBlocksXoroshiro128ss (n : Lanes)
  | seedBlocksXoshiro128ss (n : Lanes)
  | seedBlocksXoshiro256ss (n : Lanes)
  | seedBlocksXoshiro512ss (n : Lanes)
  | seedBlocksPcg32 (n : Lanes)
  | seedBlocksPcg32Xsh (n : Lanes)
  | seedBlocksPcg32Xsl (n : Lanes)
  | seedBlocksLcg32 (n : Lanes)
  | seedBlocksLcg16 (n : Lanes)
  | seedBlocksJsf32 (n : Lanes)
  | seedBlocksJsf64 (n : Lanes)
  | seedBlocksLfsr113 (n : Lanes)
  | seedBlocksLfsr258 (n : Lanes)
  | seedBlocksMwc (n : Lanes)
  | seedBlocksSfc64 (n : Lanes)
  | seedBlocksSfc32 (n : Lanes)
  | seedBlocksSfc16 (n : Lanes)
  | seedBlocksXsm32 (n : Lanes)
  | seedBlocksXsm64 (n : Lanes)
  | seedBlocksChacha4
  | seedBlocksChacha4f
  | seedBlocksArs5
  | seedBlocksArs7
  | seedBlocksAesrand
  | seedBlocksSselcg
  | seedFixedXorshift32 (n : Lanes)
  | seedFixedXorshift128 (n : Lanes)
  | seedFixedXorshift128plus (n : Lanes)
  | seedFixedXoroshiro128ss (n : Lanes)
  | seedFixedXoshiro128ss (n : Lanes)
  | seedFixedXoshiro256ss (n : Lanes)
  | seedFixedXoshiro512ss (n : Lanes)
  | seedFixedPcg32 (n : Lanes)
  | seedFixedPcg32Xsh (n : Lanes)
  | seedFixedPcg32Xsl (n : Lanes)
  | seedFixedLcg32 (n : Lanes)
  | seedFixedLcg16 (n : Lanes)
  | seedFixedJsf32 (n : Lanes)
  | seedFixedJsf64 (n : Lanes)
  | seedFixedLfsr113 (n : Lanes)
  | seedFixedLfsr258 (n : Lanes)
  | seedFixedMwc (n : Lanes)
  | seedFixedSfc64 (n : Lanes)
  | seedFixedSfc32 (n : Lanes)
  | seedFixedSfc16 (n : Lanes)
  | seedFixedXsm32 (n : Lanes)
  | seedFixedXsm64 (n : Lanes)
  | seedFixedChacha4
  | seedFixedChacha4f
  | seedFixedArs5
  | seedFixedArs7
  | seedFixedAesrand
  | seedFixedSselcg
  | genXorshift32 (n : Lanes)
  | genXorshift128 (n : Lanes)
  | genXorshift128plus (n : Lanes)
  | genXoroshiro128ss (n : Lanes)
  | genXoshiro128ss (n : Lanes)
  | genXoshiro256ss (n : Lanes)
  | genXoshiro512ss (n : Lanes)
  | genPcg32 (n : Lanes)
  | genPcg32Xsh (n : Lanes)
  | genPcg32Xsl (n : Lanes)
  | genLcg32 (n : Lanes)
  | genLcg16 (n : Lanes)
  | genJsf32 (n : Lanes)
  | genJsf64 (n : Lanes)
  | genLfsr113 (n : Lanes)
  | genLfsr258 (n : Lanes)
  | genMwc (n : Lanes)
  | genSfc64 (n : Lanes)
  | genSfc32 (n : Lanes)
  | genSfc16 (n : Lanes)
  | genXsm32 (n : Lanes)
  | genXsm64 (n : Lanes)
  | genChacha4
  | genChacha4f
  | genArs5
  | genArs7
  | genAesrand
  | genSselcg
  | fillXorshift32 (n : Lanes)
  | fillXorshift128 (n : Lanes)
  | fillXorshift128plus (n : Lanes)
  | fillXoroshiro128ss (n : Lanes)
  | fillXoshiro128ss (n : Lanes)
  | fillXoshiro256ss (n : Lanes)
  | fillXoshiro512ss (n : Lanes)
  | fillPcg32 (n : Lanes)
  | fillPcg32Xsh (n : Lanes)
  | fillPcg32Xsl (n : Lanes)
  | fillLcg32 (n : Lanes)
  | fillLcg16 (n : Lanes)
  | fillJsf32 (n : Lanes)
  | fillJsf64 (n : Lanes)
  | fillLfsr113 (n : Lanes)
  | fillLfsr258 (n : Lanes)
  | fillMwc (n : Lanes)
  | fillSfc64 (n : Lanes)
  | fillSfc32 (n : Lanes)
  | fillSfc16 (n : Lanes)
  | fillXsm32 (n : Lanes)
  | fillXsm64 (n : Lanes)
  | fillChacha4
  | fillChacha4f
  | fillArs5
  | fillArs7
  | fillAesrand
  | fillSselcg
deriving DecidableEq, Repr

/-- The operations (30_encoding.md R92). -/
inductive Op where
  | nop
  | seedRng
  | seedBlocks
  | seedFixed
  | gen
  | fill
  | clrerr
  | reset
deriving DecidableEq, Repr

/-- The SEED_RNG command of a family. A fixed-shape family has one shape: `n` is not used for it (30_encoding.md R94). -/
def Instr.seedRng (f : Fam) (n : Lanes) : Instr :=
  match f with
  | .xorshift32 => .seedRngXorshift32 n
  | .xorshift128 => .seedRngXorshift128 n
  | .xorshift128plus => .seedRngXorshift128plus n
  | .xoroshiro128ss => .seedRngXoroshiro128ss n
  | .xoshiro128ss => .seedRngXoshiro128ss n
  | .xoshiro256ss => .seedRngXoshiro256ss n
  | .xoshiro512ss => .seedRngXoshiro512ss n
  | .pcg32 => .seedRngPcg32 n
  | .pcg32Xsh => .seedRngPcg32Xsh n
  | .pcg32Xsl => .seedRngPcg32Xsl n
  | .lcg32 => .seedRngLcg32 n
  | .lcg16 => .seedRngLcg16 n
  | .jsf32 => .seedRngJsf32 n
  | .jsf64 => .seedRngJsf64 n
  | .lfsr113 => .seedRngLfsr113 n
  | .lfsr258 => .seedRngLfsr258 n
  | .mwc => .seedRngMwc n
  | .sfc64 => .seedRngSfc64 n
  | .sfc32 => .seedRngSfc32 n
  | .sfc16 => .seedRngSfc16 n
  | .xsm32 => .seedRngXsm32 n
  | .xsm64 => .seedRngXsm64 n
  | .chacha4 => .seedRngChacha4
  | .chacha4f => .seedRngChacha4f
  | .ars5 => .seedRngArs5
  | .ars7 => .seedRngArs7
  | .aesrand => .seedRngAesrand
  | .sselcg => .seedRngSselcg

/-- The SEED_BLOCKS command of a family. A fixed-shape family has one shape: `n` is not used for it (30_encoding.md R94). -/
def Instr.seedBlocks (f : Fam) (n : Lanes) : Instr :=
  match f with
  | .xorshift32 => .seedBlocksXorshift32 n
  | .xorshift128 => .seedBlocksXorshift128 n
  | .xorshift128plus => .seedBlocksXorshift128plus n
  | .xoroshiro128ss => .seedBlocksXoroshiro128ss n
  | .xoshiro128ss => .seedBlocksXoshiro128ss n
  | .xoshiro256ss => .seedBlocksXoshiro256ss n
  | .xoshiro512ss => .seedBlocksXoshiro512ss n
  | .pcg32 => .seedBlocksPcg32 n
  | .pcg32Xsh => .seedBlocksPcg32Xsh n
  | .pcg32Xsl => .seedBlocksPcg32Xsl n
  | .lcg32 => .seedBlocksLcg32 n
  | .lcg16 => .seedBlocksLcg16 n
  | .jsf32 => .seedBlocksJsf32 n
  | .jsf64 => .seedBlocksJsf64 n
  | .lfsr113 => .seedBlocksLfsr113 n
  | .lfsr258 => .seedBlocksLfsr258 n
  | .mwc => .seedBlocksMwc n
  | .sfc64 => .seedBlocksSfc64 n
  | .sfc32 => .seedBlocksSfc32 n
  | .sfc16 => .seedBlocksSfc16 n
  | .xsm32 => .seedBlocksXsm32 n
  | .xsm64 => .seedBlocksXsm64 n
  | .chacha4 => .seedBlocksChacha4
  | .chacha4f => .seedBlocksChacha4f
  | .ars5 => .seedBlocksArs5
  | .ars7 => .seedBlocksArs7
  | .aesrand => .seedBlocksAesrand
  | .sselcg => .seedBlocksSselcg

/-- The SEED_FIXED command of a family. A fixed-shape family has one shape: `n` is not used for it (30_encoding.md R94). -/
def Instr.seedFixed (f : Fam) (n : Lanes) : Instr :=
  match f with
  | .xorshift32 => .seedFixedXorshift32 n
  | .xorshift128 => .seedFixedXorshift128 n
  | .xorshift128plus => .seedFixedXorshift128plus n
  | .xoroshiro128ss => .seedFixedXoroshiro128ss n
  | .xoshiro128ss => .seedFixedXoshiro128ss n
  | .xoshiro256ss => .seedFixedXoshiro256ss n
  | .xoshiro512ss => .seedFixedXoshiro512ss n
  | .pcg32 => .seedFixedPcg32 n
  | .pcg32Xsh => .seedFixedPcg32Xsh n
  | .pcg32Xsl => .seedFixedPcg32Xsl n
  | .lcg32 => .seedFixedLcg32 n
  | .lcg16 => .seedFixedLcg16 n
  | .jsf32 => .seedFixedJsf32 n
  | .jsf64 => .seedFixedJsf64 n
  | .lfsr113 => .seedFixedLfsr113 n
  | .lfsr258 => .seedFixedLfsr258 n
  | .mwc => .seedFixedMwc n
  | .sfc64 => .seedFixedSfc64 n
  | .sfc32 => .seedFixedSfc32 n
  | .sfc16 => .seedFixedSfc16 n
  | .xsm32 => .seedFixedXsm32 n
  | .xsm64 => .seedFixedXsm64 n
  | .chacha4 => .seedFixedChacha4
  | .chacha4f => .seedFixedChacha4f
  | .ars5 => .seedFixedArs5
  | .ars7 => .seedFixedArs7
  | .aesrand => .seedFixedAesrand
  | .sselcg => .seedFixedSselcg

/-- The GEN command of a family. A fixed-shape family has one shape: `n` is not used for it (30_encoding.md R94). -/
def Instr.gen (f : Fam) (n : Lanes) : Instr :=
  match f with
  | .xorshift32 => .genXorshift32 n
  | .xorshift128 => .genXorshift128 n
  | .xorshift128plus => .genXorshift128plus n
  | .xoroshiro128ss => .genXoroshiro128ss n
  | .xoshiro128ss => .genXoshiro128ss n
  | .xoshiro256ss => .genXoshiro256ss n
  | .xoshiro512ss => .genXoshiro512ss n
  | .pcg32 => .genPcg32 n
  | .pcg32Xsh => .genPcg32Xsh n
  | .pcg32Xsl => .genPcg32Xsl n
  | .lcg32 => .genLcg32 n
  | .lcg16 => .genLcg16 n
  | .jsf32 => .genJsf32 n
  | .jsf64 => .genJsf64 n
  | .lfsr113 => .genLfsr113 n
  | .lfsr258 => .genLfsr258 n
  | .mwc => .genMwc n
  | .sfc64 => .genSfc64 n
  | .sfc32 => .genSfc32 n
  | .sfc16 => .genSfc16 n
  | .xsm32 => .genXsm32 n
  | .xsm64 => .genXsm64 n
  | .chacha4 => .genChacha4
  | .chacha4f => .genChacha4f
  | .ars5 => .genArs5
  | .ars7 => .genArs7
  | .aesrand => .genAesrand
  | .sselcg => .genSselcg

/-- The FILL command of a family. A fixed-shape family has one shape: `n` is not used for it (30_encoding.md R94). -/
def Instr.fill (f : Fam) (n : Lanes) : Instr :=
  match f with
  | .xorshift32 => .fillXorshift32 n
  | .xorshift128 => .fillXorshift128 n
  | .xorshift128plus => .fillXorshift128plus n
  | .xoroshiro128ss => .fillXoroshiro128ss n
  | .xoshiro128ss => .fillXoshiro128ss n
  | .xoshiro256ss => .fillXoshiro256ss n
  | .xoshiro512ss => .fillXoshiro512ss n
  | .pcg32 => .fillPcg32 n
  | .pcg32Xsh => .fillPcg32Xsh n
  | .pcg32Xsl => .fillPcg32Xsl n
  | .lcg32 => .fillLcg32 n
  | .lcg16 => .fillLcg16 n
  | .jsf32 => .fillJsf32 n
  | .jsf64 => .fillJsf64 n
  | .lfsr113 => .fillLfsr113 n
  | .lfsr258 => .fillLfsr258 n
  | .mwc => .fillMwc n
  | .sfc64 => .fillSfc64 n
  | .sfc32 => .fillSfc32 n
  | .sfc16 => .fillSfc16 n
  | .xsm32 => .fillXsm32 n
  | .xsm64 => .fillXsm64 n
  | .chacha4 => .fillChacha4
  | .chacha4f => .fillChacha4f
  | .ars5 => .fillArs5
  | .ars7 => .fillArs7
  | .aesrand => .fillAesrand
  | .sselcg => .fillSselcg

/-- What a command's three fields name: the operation and, but for the three commands that address no family,
the family and the lane count (30_encoding.md R90). For a fixed-shape family the lane count is not used. -/
def Instr.parts : Instr → Op × Option (Fam × Lanes)
  | .nop => (.nop, none)
  | .clrerr => (.clrerr, none)
  | .reset => (.reset, none)
  | .seedRngXorshift32 n => (.seedRng, some (.xorshift32, n))
  | .seedRngXorshift128 n => (.seedRng, some (.xorshift128, n))
  | .seedRngXorshift128plus n => (.seedRng, some (.xorshift128plus, n))
  | .seedRngXoroshiro128ss n => (.seedRng, some (.xoroshiro128ss, n))
  | .seedRngXoshiro128ss n => (.seedRng, some (.xoshiro128ss, n))
  | .seedRngXoshiro256ss n => (.seedRng, some (.xoshiro256ss, n))
  | .seedRngXoshiro512ss n => (.seedRng, some (.xoshiro512ss, n))
  | .seedRngPcg32 n => (.seedRng, some (.pcg32, n))
  | .seedRngPcg32Xsh n => (.seedRng, some (.pcg32Xsh, n))
  | .seedRngPcg32Xsl n => (.seedRng, some (.pcg32Xsl, n))
  | .seedRngLcg32 n => (.seedRng, some (.lcg32, n))
  | .seedRngLcg16 n => (.seedRng, some (.lcg16, n))
  | .seedRngJsf32 n => (.seedRng, some (.jsf32, n))
  | .seedRngJsf64 n => (.seedRng, some (.jsf64, n))
  | .seedRngLfsr113 n => (.seedRng, some (.lfsr113, n))
  | .seedRngLfsr258 n => (.seedRng, some (.lfsr258, n))
  | .seedRngMwc n => (.seedRng, some (.mwc, n))
  | .seedRngSfc64 n => (.seedRng, some (.sfc64, n))
  | .seedRngSfc32 n => (.seedRng, some (.sfc32, n))
  | .seedRngSfc16 n => (.seedRng, some (.sfc16, n))
  | .seedRngXsm32 n => (.seedRng, some (.xsm32, n))
  | .seedRngXsm64 n => (.seedRng, some (.xsm64, n))
  | .seedRngChacha4 => (.seedRng, some (.chacha4, .x2))
  | .seedRngChacha4f => (.seedRng, some (.chacha4f, .x2))
  | .seedRngArs5 => (.seedRng, some (.ars5, .x2))
  | .seedRngArs7 => (.seedRng, some (.ars7, .x2))
  | .seedRngAesrand => (.seedRng, some (.aesrand, .x2))
  | .seedRngSselcg => (.seedRng, some (.sselcg, .x2))
  | .seedBlocksXorshift32 n => (.seedBlocks, some (.xorshift32, n))
  | .seedBlocksXorshift128 n => (.seedBlocks, some (.xorshift128, n))
  | .seedBlocksXorshift128plus n => (.seedBlocks, some (.xorshift128plus, n))
  | .seedBlocksXoroshiro128ss n => (.seedBlocks, some (.xoroshiro128ss, n))
  | .seedBlocksXoshiro128ss n => (.seedBlocks, some (.xoshiro128ss, n))
  | .seedBlocksXoshiro256ss n => (.seedBlocks, some (.xoshiro256ss, n))
  | .seedBlocksXoshiro512ss n => (.seedBlocks, some (.xoshiro512ss, n))
  | .seedBlocksPcg32 n => (.seedBlocks, some (.pcg32, n))
  | .seedBlocksPcg32Xsh n => (.seedBlocks, some (.pcg32Xsh, n))
  | .seedBlocksPcg32Xsl n => (.seedBlocks, some (.pcg32Xsl, n))
  | .seedBlocksLcg32 n => (.seedBlocks, some (.lcg32, n))
  | .seedBlocksLcg16 n => (.seedBlocks, some (.lcg16, n))
  | .seedBlocksJsf32 n => (.seedBlocks, some (.jsf32, n))
  | .seedBlocksJsf64 n => (.seedBlocks, some (.jsf64, n))
  | .seedBlocksLfsr113 n => (.seedBlocks, some (.lfsr113, n))
  | .seedBlocksLfsr258 n => (.seedBlocks, some (.lfsr258, n))
  | .seedBlocksMwc n => (.seedBlocks, some (.mwc, n))
  | .seedBlocksSfc64 n => (.seedBlocks, some (.sfc64, n))
  | .seedBlocksSfc32 n => (.seedBlocks, some (.sfc32, n))
  | .seedBlocksSfc16 n => (.seedBlocks, some (.sfc16, n))
  | .seedBlocksXsm32 n => (.seedBlocks, some (.xsm32, n))
  | .seedBlocksXsm64 n => (.seedBlocks, some (.xsm64, n))
  | .seedBlocksChacha4 => (.seedBlocks, some (.chacha4, .x2))
  | .seedBlocksChacha4f => (.seedBlocks, some (.chacha4f, .x2))
  | .seedBlocksArs5 => (.seedBlocks, some (.ars5, .x2))
  | .seedBlocksArs7 => (.seedBlocks, some (.ars7, .x2))
  | .seedBlocksAesrand => (.seedBlocks, some (.aesrand, .x2))
  | .seedBlocksSselcg => (.seedBlocks, some (.sselcg, .x2))
  | .seedFixedXorshift32 n => (.seedFixed, some (.xorshift32, n))
  | .seedFixedXorshift128 n => (.seedFixed, some (.xorshift128, n))
  | .seedFixedXorshift128plus n => (.seedFixed, some (.xorshift128plus, n))
  | .seedFixedXoroshiro128ss n => (.seedFixed, some (.xoroshiro128ss, n))
  | .seedFixedXoshiro128ss n => (.seedFixed, some (.xoshiro128ss, n))
  | .seedFixedXoshiro256ss n => (.seedFixed, some (.xoshiro256ss, n))
  | .seedFixedXoshiro512ss n => (.seedFixed, some (.xoshiro512ss, n))
  | .seedFixedPcg32 n => (.seedFixed, some (.pcg32, n))
  | .seedFixedPcg32Xsh n => (.seedFixed, some (.pcg32Xsh, n))
  | .seedFixedPcg32Xsl n => (.seedFixed, some (.pcg32Xsl, n))
  | .seedFixedLcg32 n => (.seedFixed, some (.lcg32, n))
  | .seedFixedLcg16 n => (.seedFixed, some (.lcg16, n))
  | .seedFixedJsf32 n => (.seedFixed, some (.jsf32, n))
  | .seedFixedJsf64 n => (.seedFixed, some (.jsf64, n))
  | .seedFixedLfsr113 n => (.seedFixed, some (.lfsr113, n))
  | .seedFixedLfsr258 n => (.seedFixed, some (.lfsr258, n))
  | .seedFixedMwc n => (.seedFixed, some (.mwc, n))
  | .seedFixedSfc64 n => (.seedFixed, some (.sfc64, n))
  | .seedFixedSfc32 n => (.seedFixed, some (.sfc32, n))
  | .seedFixedSfc16 n => (.seedFixed, some (.sfc16, n))
  | .seedFixedXsm32 n => (.seedFixed, some (.xsm32, n))
  | .seedFixedXsm64 n => (.seedFixed, some (.xsm64, n))
  | .seedFixedChacha4 => (.seedFixed, some (.chacha4, .x2))
  | .seedFixedChacha4f => (.seedFixed, some (.chacha4f, .x2))
  | .seedFixedArs5 => (.seedFixed, some (.ars5, .x2))
  | .seedFixedArs7 => (.seedFixed, some (.ars7, .x2))
  | .seedFixedAesrand => (.seedFixed, some (.aesrand, .x2))
  | .seedFixedSselcg => (.seedFixed, some (.sselcg, .x2))
  | .genXorshift32 n => (.gen, some (.xorshift32, n))
  | .genXorshift128 n => (.gen, some (.xorshift128, n))
  | .genXorshift128plus n => (.gen, some (.xorshift128plus, n))
  | .genXoroshiro128ss n => (.gen, some (.xoroshiro128ss, n))
  | .genXoshiro128ss n => (.gen, some (.xoshiro128ss, n))
  | .genXoshiro256ss n => (.gen, some (.xoshiro256ss, n))
  | .genXoshiro512ss n => (.gen, some (.xoshiro512ss, n))
  | .genPcg32 n => (.gen, some (.pcg32, n))
  | .genPcg32Xsh n => (.gen, some (.pcg32Xsh, n))
  | .genPcg32Xsl n => (.gen, some (.pcg32Xsl, n))
  | .genLcg32 n => (.gen, some (.lcg32, n))
  | .genLcg16 n => (.gen, some (.lcg16, n))
  | .genJsf32 n => (.gen, some (.jsf32, n))
  | .genJsf64 n => (.gen, some (.jsf64, n))
  | .genLfsr113 n => (.gen, some (.lfsr113, n))
  | .genLfsr258 n => (.gen, some (.lfsr258, n))
  | .genMwc n => (.gen, some (.mwc, n))
  | .genSfc64 n => (.gen, some (.sfc64, n))
  | .genSfc32 n => (.gen, some (.sfc32, n))
  | .genSfc16 n => (.gen, some (.sfc16, n))
  | .genXsm32 n => (.gen, some (.xsm32, n))
  | .genXsm64 n => (.gen, some (.xsm64, n))
  | .genChacha4 => (.gen, some (.chacha4, .x2))
  | .genChacha4f => (.gen, some (.chacha4f, .x2))
  | .genArs5 => (.gen, some (.ars5, .x2))
  | .genArs7 => (.gen, some (.ars7, .x2))
  | .genAesrand => (.gen, some (.aesrand, .x2))
  | .genSselcg => (.gen, some (.sselcg, .x2))
  | .fillXorshift32 n => (.fill, some (.xorshift32, n))
  | .fillXorshift128 n => (.fill, some (.xorshift128, n))
  | .fillXorshift128plus n => (.fill, some (.xorshift128plus, n))
  | .fillXoroshiro128ss n => (.fill, some (.xoroshiro128ss, n))
  | .fillXoshiro128ss n => (.fill, some (.xoshiro128ss, n))
  | .fillXoshiro256ss n => (.fill, some (.xoshiro256ss, n))
  | .fillXoshiro512ss n => (.fill, some (.xoshiro512ss, n))
  | .fillPcg32 n => (.fill, some (.pcg32, n))
  | .fillPcg32Xsh n => (.fill, some (.pcg32Xsh, n))
  | .fillPcg32Xsl n => (.fill, some (.pcg32Xsl, n))
  | .fillLcg32 n => (.fill, some (.lcg32, n))
  | .fillLcg16 n => (.fill, some (.lcg16, n))
  | .fillJsf32 n => (.fill, some (.jsf32, n))
  | .fillJsf64 n => (.fill, some (.jsf64, n))
  | .fillLfsr113 n => (.fill, some (.lfsr113, n))
  | .fillLfsr258 n => (.fill, some (.lfsr258, n))
  | .fillMwc n => (.fill, some (.mwc, n))
  | .fillSfc64 n => (.fill, some (.sfc64, n))
  | .fillSfc32 n => (.fill, some (.sfc32, n))
  | .fillSfc16 n => (.fill, some (.sfc16, n))
  | .fillXsm32 n => (.fill, some (.xsm32, n))
  | .fillXsm64 n => (.fill, some (.xsm64, n))
  | .fillChacha4 => (.fill, some (.chacha4, .x2))
  | .fillChacha4f => (.fill, some (.chacha4f, .x2))
  | .fillArs5 => (.fill, some (.ars5, .x2))
  | .fillArs7 => (.fill, some (.ars7, .x2))
  | .fillAesrand => (.fill, some (.aesrand, .x2))
  | .fillSselcg => (.fill, some (.sselcg, .x2))

end Sys2Proof
end

