-- ==== Sys2Proof/WellFormed.lean ====
section
/-! DEFINITION. Which commands are well-formed (30_encoding.md R95). The syntax already names an operation, a
family and a lane count of 2, 4, 8 or 16; what it still allows and R95 (d) does not is MWC at 16 lanes. -/

namespace Sys2Proof

/-- The lane counts a family admits (30_encoding.md R95 (d), 10_state.md R22): MWC takes 2, 4 and 8 only. A
fixed-shape family has no lane count to check. -/
def Fam.admits (f : Fam) (n : Lanes) : Bool :=
  match f, n with
  | .mwc, .x16 => false
  | _, _ => true

/-- A command is well-formed: the word that names it meets 30_encoding.md R95. -/
def Instr.wf (i : Instr) : Bool :=
  match i.parts with
  | (_, none) => true
  | (_, some (f, n)) => f.admits n

end Sys2Proof
end

