-- ==== Sys2Proof/Decode.lean ====
section
/-! DEFINITION. Decoding a command word and encoding a command, written from the tables of 30_encoding.md
(R90 to R98, R102). -/

namespace Sys2Proof

/-- FAM codes (30_encoding.md R93). -/
def Fam.code : Fam → BitVec 8
  | .xorshift32 => 0x01
  | .xorshift128 => 0x02
  | .xorshift128plus => 0x03
  | .xoroshiro128ss => 0x04
  | .xoshiro128ss => 0x05
  | .xoshiro256ss => 0x06
  | .xoshiro512ss => 0x07
  | .pcg32 => 0x08
  | .pcg32Xsh => 0x09
  | .pcg32Xsl => 0x0A
  | .lcg32 => 0x0B
  | .lcg16 => 0x0C
  | .jsf32 => 0x0D
  | .jsf64 => 0x0E
  | .lfsr113 => 0x0F
  | .lfsr258 => 0x10
  | .mwc => 0x11
  | .sfc64 => 0x12
  | .sfc32 => 0x13
  | .sfc16 => 0x14
  | .xsm32 => 0x15
  | .xsm64 => 0x16
  | .chacha4 => 0x17
  | .chacha4f => 0x18
  | .ars5 => 0x19
  | .ars7 => 0x1A
  | .aesrand => 0x1B
  | .sselcg => 0x1C

/-- The family a FAM code names; every other code is reserved (30_encoding.md R93). -/
def Fam.ofCode (c : BitVec 8) : Option Fam :=
  match c.toNat with
  | 0x01 => some .xorshift32
  | 0x02 => some .xorshift128
  | 0x03 => some .xorshift128plus
  | 0x04 => some .xoroshiro128ss
  | 0x05 => some .xoshiro128ss
  | 0x06 => some .xoshiro256ss
  | 0x07 => some .xoshiro512ss
  | 0x08 => some .pcg32
  | 0x09 => some .pcg32Xsh
  | 0x0A => some .pcg32Xsl
  | 0x0B => some .lcg32
  | 0x0C => some .lcg16
  | 0x0D => some .jsf32
  | 0x0E => some .jsf64
  | 0x0F => some .lfsr113
  | 0x10 => some .lfsr258
  | 0x11 => some .mwc
  | 0x12 => some .sfc64
  | 0x13 => some .sfc32
  | 0x14 => some .sfc16
  | 0x15 => some .xsm32
  | 0x16 => some .xsm64
  | 0x17 => some .chacha4
  | 0x18 => some .chacha4f
  | 0x19 => some .ars5
  | 0x1A => some .ars7
  | 0x1B => some .aesrand
  | 0x1C => some .sselcg
  | _ => none

/-- LN codes (30_encoding.md R94). -/
def Lanes.code : Lanes → BitVec 3
  | .x2 => 1
  | .x4 => 2
  | .x8 => 3
  | .x16 => 4

/-- The lane count an LN code names; 0 is the fixed shape and 5 to 7 are reserved (30_encoding.md R94). -/
def Lanes.ofCode (c : BitVec 3) : Option Lanes :=
  match c.toNat with
  | 1 => some .x2
  | 2 => some .x4
  | 3 => some .x8
  | 4 => some .x16
  | _ => none

/-- The LN code of a family at a lane count: 0 for a fixed-shape family (30_encoding.md R94). -/
def Fam.lnCode (f : Fam) (n : Lanes) : BitVec 3 :=
  if f.isFixed then 0 else n.code

/-- OP codes (30_encoding.md R92). -/
def Op.code : Op → BitVec 4
  | .nop => 0x0
  | .seedRng => 0x1
  | .seedBlocks => 0x2
  | .seedFixed => 0x3
  | .gen => 0x4
  | .fill => 0x5
  | .clrerr => 0x6
  | .reset => 0x7

/-- The operation an OP code names; 0x8 to 0xF are reserved (30_encoding.md R92). -/
def Op.ofCode (c : BitVec 4) : Option Op :=
  match c.toNat with
  | 0x0 => some .nop
  | 0x1 => some .seedRng
  | 0x2 => some .seedBlocks
  | 0x3 => some .seedFixed
  | 0x4 => some .gen
  | 0x5 => some .fill
  | 0x6 => some .clrerr
  | 0x7 => some .reset
  | _ => none

/-- Why a word is ill-formed, in the order of the tests (30_encoding.md R95, R96). -/
inductive Reject where
  | reservedOp      -- OP above 0x7: R95 (a)
  | zeroField       -- a set bit among 16:0: R95 (b)
  | controlFields   -- NOP, CLRERR or RESET with a FAM or an LN: R95 (c)
  | family          -- FAM 0x00 or above 0x1C with an operation that needs a family: R95 (d)
  | laneCount       -- an LN the family does not admit: R95 (d)
deriving DecidableEq, Repr

/-- FAM and LN against 30_encoding.md R95 (d), for the five operations that name a family. -/
def decodeFamily (k : Fam → Lanes → Instr) (fam : BitVec 8) (ln : BitVec 3) : Except Reject Instr :=
  match Fam.ofCode fam with
  | none => .error .family
  | some f =>
    if f.isFixed then
      if ln = 0 then .ok (k f .x2) else .error .laneCount
    else
      match Lanes.ofCode ln with
      | none => .error .laneCount
      | some n => if f.admits n then .ok (k f n) else .error .laneCount

/-- FAM and LN against 30_encoding.md R95 (c), for NOP, CLRERR and RESET. -/
def decodeControl (i : Instr) (fam : BitVec 8) (ln : BitVec 3) : Except Reject Instr :=
  if fam = 0 ∧ ln = 0 then .ok i else .error .controlFields

/-- The field OP of a word (30_encoding.md R90). -/
def fieldOp (w : Word) : BitVec 4 := w.extractLsb' 28 4

/-- The field FAM of a word (30_encoding.md R90). -/
def fieldFam (w : Word) : BitVec 8 := w.extractLsb' 20 8

/-- The field LN of a word (30_encoding.md R90). -/
def fieldLn (w : Word) : BitVec 3 := w.extractLsb' 17 3

/-- The field ZERO of a word (30_encoding.md R90). -/
def fieldZero (w : Word) : BitVec 17 := w.extractLsb' 0 17

/-- Decoding is total: a word is a command or ill-formed (30_encoding.md R96: OP, then ZERO, then FAM and LN). -/
def decode (w : Word) : Except Reject Instr :=
  match Op.ofCode (fieldOp w) with
  | none => .error .reservedOp
  | some op =>
    if fieldZero w ≠ 0 then .error .zeroField
    else match op with
      | .nop => decodeControl .nop (fieldFam w) (fieldLn w)
      | .seedRng => decodeFamily Instr.seedRng (fieldFam w) (fieldLn w)
      | .seedBlocks => decodeFamily Instr.seedBlocks (fieldFam w) (fieldLn w)
      | .seedFixed => decodeFamily Instr.seedFixed (fieldFam w) (fieldLn w)
      | .gen => decodeFamily Instr.gen (fieldFam w) (fieldLn w)
      | .fill => decodeFamily Instr.fill (fieldFam w) (fieldLn w)
      | .clrerr => decodeControl .clrerr (fieldFam w) (fieldLn w)
      | .reset => decodeControl .reset (fieldFam w) (fieldLn w)

/-- `word = (OP << 28) | (FAM << 20) | (LN << 17)` (30_encoding.md R90). -/
def wordOf (op : BitVec 4) (fam : BitVec 8) (ln : BitVec 3) : Word :=
  (op.setWidth 32 <<< 28) ||| (fam.setWidth 32 <<< 20) ||| (ln.setWidth 32 <<< 17)

/-- The word of a command (30_encoding.md R90, R102). -/
def encode (i : Instr) : Word :=
  match i.parts with
  | (op, none) => wordOf op.code 0 0
  | (op, some (f, n)) => wordOf op.code f.code (f.lnCode n)

/-- The command of a table row's word, numbered as spec/opcode_table.json numbers it: a command word is one
32-bit value (30_encoding.md R90), so every bit above `nbits` is 0 and there is nothing to lay out. -/
def decodeTableWord (nbits w : Nat) : Option Instr :=
  match decode (BitVec.ofNat 32 (w % 2 ^ nbits)) with
  | .ok i => some i
  | .error _ => none

end Sys2Proof
end

