-- ==== Sys2Proof/Config.lean ====
section
/-! DEFINITION. What an implementation fixes and what the spec leaves free: the parameters of 00_scope.md R7 as one
record of plain data (93_implementation_defined.md part 2), and the free values as constants without a body, of
which nothing can be computed or proved. The record's default values stand in Machine/Defaults.lean. -/

namespace Sys2Proof

/-- A row (s1, s2, k, s3) of an LFSR table. The distances are below the width, as every shift's must be
(43_jsf_lfsr_mwc_sfc_xsm.md R222, 40_lane_vector.md R146). -/
structure LfsrRow (W : Nat) where
  s1 : Fin W
  s2 : Fin W
  k : Fin W
  s3 : Fin W
deriving DecidableEq, Repr

/-- The parameter `PCG_XSH_OUT` or `PCG_XSL_OUT`, a function u64 → u32: the spec's default, or another function,
of which nothing is known (42_pcg_lcg.md R202, R203; DESIGN CHOICE, log 8). -/
inductive OutputFn where
  | standard
  | other
deriving DecidableEq, Repr

/-- A state (a, b, c, d) of one JSF lane, as the forbidden lists hold them (45_seeding.md R322). -/
structure JsfTuple (W : Nat) where
  a : BitVec W
  b : BitVec W
  c : BitVec W
  d : BitVec W
deriving DecidableEq, Repr

/-- The parameters of 00_scope.md R7, each under the spec's name. A field of State holds them and no step changes
them (log 3). -/
structure Params where
  /-- XORSHIFT128PLUS_PUBLISHED (41_xorshift_xoshiro.md R172). -/
  xorshift128plusPublished : Bool
  /-- PCG_XSH_OUT (42_pcg_lcg.md R202). -/
  pcgXshOut : OutputFn
  /-- PCG_XSL_OUT (42_pcg_lcg.md R203). -/
  pcgXslOut : OutputFn
  /-- LCG32_MUL (42_pcg_lcg.md R204). -/
  lcg32Mul : BitVec 64
  /-- LCG16_MUL (42_pcg_lcg.md R205). -/
  lcg16Mul : BitVec 32
  /-- LCG_OUT_HIGH (42_pcg_lcg.md R204, R205). -/
  lcgOutHigh : Bool
  /-- JSF32_BAD (45_seeding.md R322). -/
  jsf32Bad : List (JsfTuple 32)
  /-- JSF64_BAD (45_seeding.md R323). -/
  jsf64Bad : List (JsfTuple 64)
  /-- LFSR113_TAB (43_jsf_lfsr_mwc_sfc_xsm.md R222). -/
  lfsr113Tab : Vector (LfsrRow 32) 4
  /-- LFSR258_TAB (43_jsf_lfsr_mwc_sfc_xsm.md R223). -/
  lfsr258Tab : Vector (LfsrRow 64) 5
  /-- MWC_FACTOR[0..7] (43_jsf_lfsr_mwc_sfc_xsm.md R224). -/
  mwcFactor : Vector (BitVec 32) 8
  /-- MWC_ZERO_AVOID (45_seeding.md R326). -/
  mwcZeroAvoid : Bool
  /-- `XSM_K - 3`, the number of unnamed words of an XSM state: XSM_K is at least 3 (10_state.md R22) and the register
  file has sixteen registers, so XSM_K is 3 to 16. -/
  xsmExtra : Fin 14
  /-- CHACHA_DOUBLE_ROUNDS (44_chacha_aes_sse.md R264). -/
  chachaDoubleRounds : Nat
  /-- ARS_CTR_INC, bits 63:0 (44_chacha_aes_sse.md R267). -/
  arsCtrIncLow : BitVec 64
  /-- ARS_CTR_INC, bits 127:64 (44_chacha_aes_sse.md R267). -/
  arsCtrIncHigh : BitVec 64
  /-- ARS_PREWHITEN (44_chacha_aes_sse.md R267). -/
  arsPrewhiten : Bool
  /-- AESRAND_INC (44_chacha_aes_sse.md R270). -/
  aesrandInc : BitVec 128
  /-- AESRAND_KEY (44_chacha_aes_sse.md R270). -/
  aesrandKey : BitVec 128
  /-- SSE_MUL[0..3] (44_chacha_aes_sse.md R271). -/
  sseMul : Vector (BitVec 32) 4
  /-- SSE_ADD[0..3] (44_chacha_aes_sse.md R271). -/
  sseAdd : Vector (BitVec 32) 4
  /-- XOROSHIRO_JUMP (45_seeding.md R338). -/
  xoroshiroJump : Vector (BitVec 64) 2
  /-- XOSHIRO256_JUMP (45_seeding.md R338). -/
  xoshiro256Jump : Vector (BitVec 64) 4
  /-- FIXED_SEED_SUPPORTED: the families that have a fixed-seed constructor (45_seeding.md R344). -/
  fixedSeed : List Fam
deriving DecidableEq, Repr

/-- XSM_K (10_state.md R22). -/
def Params.xsmK (p : Params) : Nat := 3 + p.xsmExtra.val

namespace Config

/-! The free values. Each is applied to the operands it may depend on, or to the number of free values drawn so far. -/

/-- PCG_XSH_OUT where it is not the spec's default (42_pcg_lcg.md R202; log 8). -/
opaque pcgXshOut : BitVec 64 → BitVec 32

/-- PCG_XSL_OUT where it is not the spec's default (42_pcg_lcg.md R203; log 8). -/
opaque pcgXslOut : BitVec 64 → BitVec 32

/-- The low half of what an XSM step adds to its (lcg_low, lcg_high) pair, as a function of the width and of the lane's
state words (43_jsf_lfsr_mwc_sfc_xsm.md R228 (c), R229; log 9). -/
opaque xsmAddLow (W : Nat) : List (BitVec W) → BitVec W

/-- The high half of what an XSM step adds to its pair (43_jsf_lfsr_mwc_sfc_xsm.md R228 (c), R229; log 9). -/
opaque xsmAddHigh (W : Nat) : List (BitVec W) → BitVec W

/-- The new value of an XSM lane's state word 2 (`history`) and of the unnamed words after it, by word index
(43_jsf_lfsr_mwc_sfc_xsm.md R228 (d), R229; log 9). -/
opaque xsmWord (W : Nat) : List (BitVec W) → Nat → BitVec W

/-- An XSM lane's output (43_jsf_lfsr_mwc_sfc_xsm.md R228, R229; log 9). -/
opaque xsmOut (W : Nat) : List (BitVec W) → BitVec W

/-- Whether the k-th free answer of the entropy source is a failure, and its code (20_memory.md R70; log 4). -/
opaque entFail : Nat → Option (BitVec 32)

/-- Byte i of the k-th answer of the entropy source, where the answer is not listed (20_memory.md R70; log 4). -/
opaque entByte : Nat → Nat → BitVec 8

/-- How many requests the entropy source answers past the listed answers, in a seeding whose first request is the k-th: that
it answers every one is an assumption about the source and no rule (20_memory.md R70, 70_reset_and_hazards.md R416; log 5). -/
opaque entAnswers : Nat → Nat

/-- Byte i of the k-th free read of the STATE window (10_state.md R35; log 7). -/
opaque windowByte : Nat → Nat → BitVec 8

end Config

end Sys2Proof
end

