-- ==== Sys2Proof/Machine/Defaults.lean ====
section
/-! DEFINITION. The default values of the parameters (93_implementation_defined.md part 2), which State.reset gives
them. No meaning reads a default: every meaning reads the parameter from State (00_scope.md R7; log 3). -/

namespace Sys2Proof

/-- LFSR113_TAB's default (43_jsf_lfsr_mwc_sfc_xsm.md R222). -/
def defaultLfsr113Tab : Vector (LfsrRow 32) 4 :=
  #v[⟨6, 13, 1, 18⟩, ⟨2, 27, 3, 2⟩, ⟨13, 21, 4, 7⟩, ⟨3, 12, 7, 13⟩]

/-- LFSR258_TAB's default (43_jsf_lfsr_mwc_sfc_xsm.md R223). -/
def defaultLfsr258Tab : Vector (LfsrRow 64) 5 :=
  #v[⟨1, 53, 1, 10⟩, ⟨24, 50, 9, 5⟩, ⟨3, 23, 12, 29⟩, ⟨5, 24, 17, 23⟩, ⟨3, 33, 23, 8⟩]

/-- JSF32_BAD's default (45_seeding.md R322). -/
def defaultJsf32Bad : List (JsfTuple 32) :=
  [⟨0, 0, 0, 0⟩,
   ⟨0x77777777, 0x55555555, 0x11111111, 0x44444444⟩,
   ⟨0x5591F2E3, 0x69EBA6CD, 0x2A171E3D, 0x3FD48890⟩,
   ⟨0x47CB8D56, 0xAE9B35A7, 0x5C78F4A8, 0x522240FF⟩]

/-- JSF64_BAD's default (45_seeding.md R323). -/
def defaultJsf64Bad : List (JsfTuple 64) := [⟨0, 0, 0, 0⟩]

/-- MWC_FACTOR's default (43_jsf_lfsr_mwc_sfc_xsm.md R224). -/
def defaultMwcFactor : Vector (BitVec 32) 8 :=
  #v[4294963023, 3947008974, 4162943475, 2654432763, 3874257210, 2936881968, 4294957665, 2811536238]

/-- The 28 families (00_scope.md R2). -/
def allFamilies : List Fam :=
  [.xorshift32, .xorshift128, .xorshift128plus, .xoroshiro128ss, .xoshiro128ss, .xoshiro256ss, .xoshiro512ss,
   .pcg32, .pcg32Xsh, .pcg32Xsl, .lcg32, .lcg16, .jsf32, .jsf64, .lfsr113, .lfsr258, .mwc, .sfc64, .sfc32, .sfc16,
   .xsm32, .xsm64, .chacha4, .chacha4f, .ars5, .ars7, .aesrand, .sselcg]

/-- The parameters' default values (93_implementation_defined.md part 2). FIXED_SEED_SUPPORTED has no default in the
spec (45_seeding.md R344); every family is given one here. DESIGN CHOICE, log 3. -/
def defaultParams : Params where
  xorshift128plusPublished := false
  pcgXshOut := .standard
  pcgXslOut := .standard
  lcg32Mul := 6364136223846793005
  lcg16Mul := 747796405
  lcgOutHigh := false
  jsf32Bad := defaultJsf32Bad
  jsf64Bad := defaultJsf64Bad
  lfsr113Tab := defaultLfsr113Tab
  lfsr258Tab := defaultLfsr258Tab
  mwcFactor := defaultMwcFactor
  mwcZeroAvoid := true
  xsmExtra := 1
  chachaDoubleRounds := 2
  arsCtrIncLow := 1
  arsCtrIncHigh := 1
  arsPrewhiten := true
  aesrandInc := 0x2F2B29251F1D1713110D0B0705030201
  aesrandKey := 0x2F2B29251F1D1713110D0B0705030201
  sseMul := #v[214013, 17405, 214013, 69069]
  sseAdd := #v[2531011, 10395331, 13737667, 1]
  xoroshiroJump := #v[0xDF900294D8F554A5, 0x170865DF4B3201FC]
  xoshiro256Jump := #v[0x180EC6D33CFD0ABA, 0xD5A61266F0C9392C, 0xA9582618E03FC9AA, 0x39ABDC4529B1661C]
  fixedSeed := allFamilies

end Sys2Proof
end

