-- ==== Sys2Proof/Machine/State.lean ====
section
/-! DEFINITION. The state of one engine (10_state.md R20), the reasons the model can stop, and the state after
reset (10_state.md R37). -/

namespace Sys2Proof.Machine

/-- CFG: which generator the engine holds (10_state.md R21). -/
structure Cfg where
  /-- CFG.FAM: a family code, or 0x00 for no instance. -/
  fam : BitVec 8
  /-- CFG.LN: a lane-count code. -/
  ln : BitVec 3
deriving DecidableEq, Repr

/-- The content of one state register: a lane vector of 16, 32, 64 or 128-bit elements (10_state.md R22, R24). -/
inductive LaneVec where
  | u16 (v : Vec 16)
  | u32 (v : Vec 32)
  | u64 (v : Vec 64)
  | u128 (v : Vec 128)
deriving DecidableEq, Repr

/-- The generator instance (10_state.md R20: "CFG plus S plus (for AesRand) BUF and BUFV", of which S, BUF, BUFV). -/
structure Inst where
  /-- The registers S[0], S[1], … . A register past the end of the list is the lane vector of no lanes: it holds no
  value, as the spec says of S[K] and above, and of all sixteen while VALID = 0 (10_state.md R22, R25; log 1). -/
  S : List LaneVec
  /-- BUF, a u128 vector of one lane, or of no lane where the spec says BUF holds no value (10_state.md R28; log 2). -/
  buf : Vec 128
  /-- BUFV (10_state.md R28). -/
  bufv : Bool
deriving DecidableEq, Repr

/-- ERR.CODE: exactly the codes 0 to 6 (60_exceptions.md R380). -/
inductive ErrCode where
  | none
  | entropy
  | unsupported
  | illegal
  | notSeeded
  | mismatch
  | badSeed
deriving DecidableEq, Repr

/-- An answer of the entropy source that is already fixed: bytes or a failure code (20_memory.md R70; log 4). -/
inductive EntAnswer where
  | ok (bytes : List Byte)
  | fail (code : BitVec 32)
deriving DecidableEq, Repr

/-- What the host, or the platform, does next (20_memory.md R79): a register access at a byte offset of the register
space, of a width in bits, or the hardware reset of 70_reset_and_hazards.md R410. -/
inductive HostAction where
  | write (off bits : Nat) (val : Word)
  | read (off bits : Nat)
  | reset
deriving DecidableEq, Repr

/-- The complete state of one engine (10_state.md R20) and, after `out`, the model's own fields. -/
structure State where
  /-- The implementation's parameters (00_scope.md R7): configuration, which no step changes (log 3). -/
  par : Params
  /-- CFG (10_state.md R21). -/
  cfg : Cfg
  /-- VALID (10_state.md R25). -/
  valid : Bool
  /-- S, BUF and BUFV (10_state.md R22, R28). -/
  inst : Inst
  /-- ERR.CODE (10_state.md R30, R33). -/
  err : ErrCode
  /-- ERRCMD (10_state.md R30, R33). -/
  errcmd : Word
  /-- ENTCODE (10_state.md R30, R33). -/
  entcode : BitVec 32
  /-- LEN (10_state.md R30, R32). -/
  len : BitVec 32
  /-- The seed FIFO, oldest byte first (20_memory.md R68). -/
  fifo : List Byte
  /-- OUT: every byte appended since reset, in order (20_memory.md R65). -/
  out : List Byte
  /-- The host's actions still to come (log 6). -/
  host : List HostAction
  /-- The answers of the entropy source that are already fixed (log 4). -/
  ent : List EntAnswer
  /-- How many free values have been drawn (log 4). -/
  draws : Nat
  /-- The seeding command that never completes: no further request of it is answered with a failure or a draw that the
validator takes, the host's write of it does not return, and the machine is stuck (45_seeding.md R346, 20_memory.md R79; log 5). -/
  pend : Option Instr
  /-- The value the last register read gave the host (log 7). -/
  rdata : Word
deriving DecidableEq, Repr

/-- Why the machine stops with a fault. -/
inductive Fault where
  /-- Raised by the step on a host access at an offset outside the 2048 bytes of the register space: the engine has no
  other addressed space (20_memory.md R60, R61). Safe: nothing is claimed of such an access (log 10). -/
  | outsideRegisterSpace (off : Nat)
deriving DecidableEq, Repr

/-- Why the machine refuses a step. -/
inductive Refusal where
  /-- Raised by exec for an instruction that has no meaning yet; no arm does. Safe. -/
  | notModelled (mnemonic : String)
  /-- Raised by the step on a host access that is not a naturally aligned 32-bit access: "outside this spec … and the
  model refuses it" (20_memory.md R71). Safe: nothing is claimed of such an access. -/
  | notAligned32 (off bits : Nat)
deriving DecidableEq, Repr

/-- The outcome of a step or of an instruction. -/
abbrev Result := Host.Outcome State Fault Refusal

/-- No instance: every state register is the lane vector of no lanes, and BUF holds no value (10_state.md R37,
70_reset_and_hazards.md R411; DESIGN CHOICE, log 1, 2). -/
def Inst.empty : Inst where
  S := []
  buf := []
  bufv := false

/-- The engine after reset (10_state.md R37, 70_reset_and_hazards.md R410). -/
def State.reset : State where
  par := defaultParams
  cfg := ⟨0, 0⟩
  valid := false
  inst := Inst.empty
  err := .none
  errcmd := 0
  entcode := 0
  len := 0
  fifo := []
  out := []
  host := []
  ent := []
  draws := 0
  pend := none
  rdata := 0

end Sys2Proof.Machine
end

