-- ==== Sys2Proof/Machine/Operands.lean ====
section
/-! DEFINITION. The lane-vector datapath (40_lane_vector.md) and the byte images (20_memory.md R63). Every operation
acts lane by lane and none raises an error or writes a flag (R145). On operands of different lane counts, an application
that R145 (d) calls ill-typed and that no rule makes, the binary operations here and in Machine/Flags.lean give the lanes
that both have (DESIGN CHOICE, log 20). The AES rounds stand in Machine/Aes.lean, the
compares, masks and reductions in Machine/Flags.lean. -/

namespace Sys2Proof.Machine

/-! ## Arithmetic and bitwise operations -/

/-- `a + b` (40_lane_vector.md R120). -/
def vadd {W : Nat} (a b : Vec W) : Vec W := List.zipWith (· + ·) a b

/-- `a - b` (40_lane_vector.md R121). -/
def vsub {W : Nat} (a b : Vec W) : Vec W := List.zipWith (· - ·) a b

/-- `a * b` (40_lane_vector.md R122). -/
def vmul {W : Nat} (a b : Vec W) : Vec W := List.zipWith (· * ·) a b

/-- `a ^ b` (40_lane_vector.md R123). -/
def vxor {W : Nat} (a b : Vec W) : Vec W := List.zipWith (· ^^^ ·) a b

/-- `a & b` (40_lane_vector.md R124). -/
def vand {W : Nat} (a b : Vec W) : Vec W := List.zipWith (· &&& ·) a b

/-- `a | b` (40_lane_vector.md R125). -/
def vor {W : Nat} (a b : Vec W) : Vec W := List.zipWith (· ||| ·) a b

/-- `~a` (40_lane_vector.md R126). -/
def vnot {W : Nat} (a : Vec W) : Vec W := a.map (~~~ ·)

/-- A constant in every lane of a vector shaped like `a` (40_lane_vector.md R137). -/
def vsplat {W V : Nat} (c : BitVec W) (a : Vec V) : Vec W := a.map fun _ => c

/-- `a + c` for a scalar constant c (00_scope.md R9: a constant means its splat). -/
def vaddc {W : Nat} (a : Vec W) (c : BitVec W) : Vec W := vadd a (vsplat c a)

/-- `a * c` for a scalar constant c (00_scope.md R9). -/
def vmulc {W : Nat} (a : Vec W) (c : BitVec W) : Vec W := vmul a (vsplat c a)

/-- `a & c` for a scalar constant c (00_scope.md R9). -/
def vandc {W : Nat} (a : Vec W) (c : BitVec W) : Vec W := vand a (vsplat c a)

/-- `a | c` for a scalar constant c (00_scope.md R9). -/
def vorc {W : Nat} (a : Vec W) (c : BitVec W) : Vec W := vor a (vsplat c a)

/-! ## Shifts and rotates -/

/-- `a << k`. It has a value only below the width: the argument `h` is R146's precondition, and there is no result
outside it (40_lane_vector.md R127, R146; log 14). -/
def vshl {W : Nat} (a : Vec W) (k : Nat) (_h : k < W := by decide) : Vec W :=
  a.map fun x : BitVec W => x <<< k

/-- `a >> k`, logical, with the same precondition (40_lane_vector.md R128, R146; log 14). -/
def vshr {W : Nat} (a : Vec W) (k : Nat) (_h : k < W := by decide) : Vec W :=
  a.map fun x : BitVec W => x >>> k

/-- `rotl` of one lane: the distance is reduced modulo the width (40_lane_vector.md R129). -/
def rotl {W : Nat} (x : BitVec W) (k : Nat) : BitVec W :=
  if k % W = 0 then x else (x <<< (k % W)) ||| (x >>> (W - k % W))

/-- `rotr` of one lane, by the rotate left of the complementary distance (40_lane_vector.md R130). -/
def rotr {W : Nat} (x : BitVec W) (k : Nat) : BitVec W := rotl x ((W - k % W) % W)

/-- `rotl(a, k)` (40_lane_vector.md R129). -/
def vrotl {W : Nat} (a : Vec W) (k : Nat) : Vec W := a.map (rotl · k)

/-- `rotr(a, k)` (40_lane_vector.md R130). -/
def vrotr {W : Nat} (a : Vec W) (k : Nat) : Vec W := a.map (rotr · k)

/-- `rotrv(a, r)`: lane j by `r[j] mod W` (40_lane_vector.md R131). -/
def vrotrv {W V : Nat} (a : Vec W) (r : Vec V) : Vec W := List.zipWith (fun x d => rotr x (d.toNat % W)) a r

/-! ## Operations that change the shape -/

/-- `trunc_M(a)` (40_lane_vector.md R138). -/
def vtrunc {W : Nat} (M : Nat) (a : Vec W) : Vec M := a.map (·.setWidth M)

/-- `zext_M(a)` (40_lane_vector.md R139). -/
def vzext {W : Nat} (M : Nat) (a : Vec W) : Vec M := a.map (·.setWidth M)

/-- `wmul32` of one lane: the full product of the low 32 bits (40_lane_vector.md R140). -/
def wmul32 (x y : BitVec 64) : BitVec 64 :=
  (x.setWidth 32).setWidth 64 * (y.setWidth 32).setWidth 64

/-- `wmul32(a, b)` (40_lane_vector.md R140). -/
def vwmul32 (a b : Vec 64) : Vec 64 := List.zipWith wmul32 a b

/-- `add64x2(a, b)`: two independent 64-bit additions (40_lane_vector.md R141, 10_state.md R24). -/
def add64x2 (a b : BitVec 128) : BitVec 128 :=
  (a.extractLsb' 64 64 + b.extractLsb' 64 64) ++ (a.extractLsb' 0 64 + b.extractLsb' 0 64)

/-! ## Byte images -/

/-- Byte i of a value: bits 8i+7:8i (20_memory.md R63). -/
def byteAt {W : Nat} (x : BitVec W) (i : Nat) : Byte := x.extractLsb' (8 * i) 8

/-- The image of one lane, least significant byte first (20_memory.md R63). -/
def laneImage {W : Nat} (x : BitVec W) : List Byte := (List.range (W / 8)).map (byteAt x)

/-- `image(v)`: lane 0 first (20_memory.md R63). -/
def image {W : Nat} (v : Vec W) : List Byte := v.flatMap laneImage

/-- The value whose bytes are `bytes`, the first the least significant (20_memory.md R63). -/
def leWord (W : Nat) (bytes : List Byte) : BitVec W :=
  bytes.foldr (fun b acc => (acc <<< 8) ||| b.setWidth W) 0

/-- `le(bytes, W, N)`: the vector of N lanes whose image is `bytes` (20_memory.md R63). -/
def le (W N : Nat) (bytes : List Byte) : Vec W :=
  (List.range N).map fun j => leWord W ((bytes.drop (j * (W / 8))).take (W / 8))

/-- State word k of a seed image of words of N lanes of W bits (20_memory.md R64). -/
def seedWord (W N k : Nat) (bytes : List Byte) : Vec W := le W N (bytes.drop (k * (N * (W / 8))))

/-- The K state words of a seed image (20_memory.md R64). -/
def seedWords (W N K : Nat) (bytes : List Byte) : List (Vec W) :=
  (List.range K).map fun k => seedWord W N k bytes

/-! ## The state registers -/

/-- A register's lanes as 16-bit elements; a register of another width has none (log 12). -/
def LaneVec.as16 : LaneVec → Vec 16
  | .u16 v => v
  | _ => []

/-- A register's lanes as 32-bit elements; a register of another width has none (log 12). -/
def LaneVec.as32 : LaneVec → Vec 32
  | .u32 v => v
  | _ => []

/-- A register's lanes as 64-bit elements; a register of another width has none (log 12). -/
def LaneVec.as64 : LaneVec → Vec 64
  | .u64 v => v
  | _ => []

/-- A register's lanes as 128-bit elements; a register of another width has none (log 12). -/
def LaneVec.as128 : LaneVec → Vec 128
  | .u128 v => v
  | _ => []

/-- The byte image of a register (20_memory.md R63). -/
def LaneVec.image : LaneVec → List Byte
  | .u16 v => Machine.image v
  | .u32 v => Machine.image v
  | .u64 v => Machine.image v
  | .u128 v => Machine.image v

/-- How many lanes a register holds. -/
def LaneVec.lanes : LaneVec → Nat
  | .u16 v => v.length
  | .u32 v => v.length
  | .u64 v => v.length
  | .u128 v => v.length

/-- `S[k]` as 16-bit lanes (00_scope.md R11). -/
def Inst.s16 (i : Inst) (k : Nat) : Vec 16 := (i.S[k]?.map LaneVec.as16).getD []

/-- `S[k]` as 32-bit lanes (00_scope.md R11). -/
def Inst.s32 (i : Inst) (k : Nat) : Vec 32 := (i.S[k]?.map LaneVec.as32).getD []

/-- `S[k]` as 64-bit lanes (00_scope.md R11). -/
def Inst.s64 (i : Inst) (k : Nat) : Vec 64 := (i.S[k]?.map LaneVec.as64).getD []

/-- `S[k]` as 128-bit values (00_scope.md R11, 10_state.md R24). -/
def Inst.s128 (i : Inst) (k : Nat) : Vec 128 := (i.S[k]?.map LaneVec.as128).getD []

/-- `S[0..K-1] <- ws` (00_scope.md R11). -/
def Inst.put (i : Inst) (ws : List LaneVec) : Inst := { i with S := ws }

/-- The state image: the images of S[0], S[1], … one after another (20_memory.md R64). -/
def Inst.stateImage (i : Inst) : List Byte := i.S.flatMap LaneVec.image

end Sys2Proof.Machine
end

