-- ==== Sys2Proof/Machine/Flags.lean ====
section
/-! DEFINITION. Masks: compares, select, reductions and mask logic (40_lane_vector.md R132 to R136), and the tests the
validator makes with them. The engine has no condition codes (10_state.md R26); its one flag that is computed, ERRF, and
the flags a host sees are here too (R27, R30). -/

namespace Sys2Proof.Machine

/-! ## Compares, select, reductions -/

/-- `a == b` (40_lane_vector.md R132). -/
def veq {W : Nat} (a b : Vec W) : Mask := List.zipWith (fun x y => decide (x = y)) a b

/-- `a != b` (40_lane_vector.md R132). -/
def vne {W : Nat} (a b : Vec W) : Mask := List.zipWith (fun x y => decide (x ≠ y)) a b

/-- `a < b`, unsigned (40_lane_vector.md R132). -/
def vlt {W : Nat} (a b : Vec W) : Mask := List.zipWith (fun x y => decide (x.toNat < y.toNat)) a b

/-- `a <= b`, unsigned (40_lane_vector.md R132). -/
def vle {W : Nat} (a b : Vec W) : Mask := List.zipWith (fun x y => decide (x.toNat ≤ y.toNat)) a b

/-- `a > b`, unsigned (40_lane_vector.md R132). -/
def vgt {W : Nat} (a b : Vec W) : Mask := vlt b a

/-- `a >= b`, unsigned (40_lane_vector.md R132). -/
def vge {W : Nat} (a b : Vec W) : Mask := vle b a

/-- `select(m, a, b)` (40_lane_vector.md R133). -/
def vselect {W : Nat} (m : Mask) (a b : Vec W) : Vec W :=
  List.zipWith (fun c p => if c then p.1 else p.2) m (a.zip b)

/-- `any(m)` (40_lane_vector.md R134). -/
def maskAny (m : Mask) : Bool := m.any id

/-- `all(m)` (40_lane_vector.md R135). -/
def maskAll (m : Mask) : Bool := m.all id

/-- `m1 && m2` (40_lane_vector.md R136). -/
def maskAnd (m1 m2 : Mask) : Mask := List.zipWith (· && ·) m1 m2

/-- `m1 || m2` (40_lane_vector.md R136). -/
def maskOr (m1 m2 : Mask) : Mask := List.zipWith (· || ·) m1 m2

/-- `!m` (40_lane_vector.md R136). -/
def maskNot (m : Mask) : Mask := m.map (!·)

/-! ## The validator's tests -/

/-- `S[k] == 0` (45_seeding.md R302). -/
def LaneVec.zeroMask : LaneVec → Mask
  | .u16 v => veq v (vsplat 0 v)
  | .u32 v => veq v (vsplat 0 v)
  | .u64 v => veq v (vsplat 0 v)
  | .u128 v => veq v (vsplat 0 v)

/-- `degen`: the lanes in which every state word is zero (45_seeding.md R302). -/
def degenMask : List LaneVec → Mask
  | [] => []
  | v :: vs => vs.foldl (fun m w => maskAnd m w.zeroMask) v.zeroMask

/-- `not any(degen)` (45_seeding.md R303). -/
def noLaneDegenerate (S : List LaneVec) : Bool := !maskAny (degenMask S)

/-- The threshold `T = 2^k - 1` of an LFSR word (45_seeding.md R324). -/
def lfsrThreshold {W : Nat} (r : LfsrRow W) : BitVec W := BitVec.ofNat W (2 ^ r.k.val - 1)

/-- `any(S[i] <= T_i)` of one LFSR word (45_seeding.md R324). -/
def atOrBelow {W : Nat} (T : BitVec W) (v : Vec W) : Bool := maskAny (vle v (vsplat T v))

/-- The lanes whose (a, b, c, d) is in a JSF list (45_seeding.md R322). -/
def jsfBadMask {W : Nat} (bad : List (JsfTuple W)) (a b c d : Vec W) : Mask :=
  bad.foldl
    (fun m t =>
      maskOr m (maskAnd (maskAnd (maskAnd (veq a (vsplat t.a a)) (veq b (vsplat t.b b)))
        (veq c (vsplat t.c c))) (veq d (vsplat t.d d))))
    (a.map fun _ => false)

/-! ## The flags a host sees -/

/-- ERR.CODE as the four bits of the ERR register (60_exceptions.md R380). -/
def ErrCode.bits : ErrCode → BitVec 4
  | .none => 0
  | .entropy => 1
  | .unsupported => 2
  | .illegal => 3
  | .notSeeded => 4
  | .mismatch => 5
  | .badSeed => 6

/-- ERRF is `ERR.CODE != 0` (10_state.md R27). -/
def State.errf (s : State) : Bool := decide (s.err ≠ .none)

/-- BUFV as STATUS shows it: 0 unless CFG.FAM = AESRAND and VALID = 1 (10_state.md R30). -/
def State.shownBufv (s : State) : Bool :=
  s.inst.bufv && decide (s.cfg.fam = Fam.aesrand.code) && s.valid

/-- STATUS (10_state.md R30): VALID, BUFV, ERRF, BUSY = 0, zeros, CFG.FAM in 15:8, CFG.LN in 18:16, zeros. -/
def State.status (s : State) : Word :=
  (BitVec.ofBool s.valid).setWidth 32
    ||| ((BitVec.ofBool s.shownBufv).setWidth 32 <<< 1)
    ||| ((BitVec.ofBool s.errf).setWidth 32 <<< 2)
    ||| (s.cfg.fam.setWidth 32 <<< 8)
    ||| (s.cfg.ln.setWidth 32 <<< 16)

end Sys2Proof.Machine
end

