-- ==== Sys2Proof/Machine/Ops.lean ====
section
/-! DEFINITION. The named operations over the state: raising an error and returning from one, the streams, the
entropy port, the register space, and the wrappers that every command runs in (10_state.md, 20_memory.md,
47_control.md R360, R364, 60_exceptions.md). -/

namespace Sys2Proof.Machine

/-! ## Errors: entry and return -/

/-- `raise E_X(info)`: record the error, its command word and, for E_ENTROPY, the source's code; nothing else is saved or
changed (60_exceptions.md R383). -/
def State.raise (s : State) (e : ErrCode) (cmd : Word) (info : BitVec 32) : State :=
  { s with err := e, errcmd := cmd, entcode := if e = .entropy then info else 0 }

/-- The return from an error: CLRERR clears the three error registers and restores nothing, because nothing was saved
(47_control.md R362, 60_exceptions.md R386). -/
def State.clearError (s : State) : State :=
  { s with err := .none, errcmd := 0, entcode := 0 }

/-! ## The instance -/

/-- CFG of a family at a lane count (10_state.md R21). -/
def cfgOf (f : Fam) (n : Lanes) : Cfg := ⟨f.code, f.lnCode n⟩

/-- The lane count N of a family, given the lane count of a lane-parallel one (10_state.md R22, 30_encoding.md R94). -/
def famLanes (f : Fam) (n : Lanes) : Nat :=
  match f with
  | .chacha4 | .chacha4f | .ars5 | .ars7 | .aesrand => 1
  | .sselcg => 4
  | _ => n.count

/-- `VALID <- 0; CFG.FAM <- 0; CFG.LN <- 0`: the old instance is gone, and S, BUF and BUFV hold no value
(45_seeding.md R300; 10_state.md R25; 70_reset_and_hazards.md R413: nothing of it survives; log 13). -/
def State.dropInstance (s : State) : State :=
  { s with valid := false, cfg := ⟨0, 0⟩, inst := Inst.empty }

/-- The end of a seeding that succeeded: the words are in S, CFG names the instance, VALID is 1, and BUFV is 0 with no
value in BUF (45_seeding.md R300, R336; 10_state.md R28). -/
def State.install (s : State) (c : Cfg) (S : List LaneVec) : State :=
  { s with cfg := c, valid := true, inst := ⟨S, [], false⟩ }

/-! ## Streams -/

/-- `OutAppend(bytes)` (20_memory.md R66). -/
def State.outAppend (s : State) (bytes : List Byte) : State := { s with out := s.out ++ bytes }

/-- The capacity of the seed FIFO (20_memory.md R68). -/
def fifoDepth : Nat := 2048

/-- A write to SEEDIN: a byte at the tail, dropped without an error when the FIFO is full (20_memory.md R68, R69). -/
def State.seedPush (s : State) (b : Byte) : State :=
  if s.fifo.length < fifoDepth then { s with fifo := s.fifo ++ [b] } else s

/-- `SeedPop(SEEDCNT)`: all bytes leave the FIFO, oldest first (20_memory.md R68, 45_seeding.md R343). -/
def State.seedPopAll (s : State) : List Byte × State := (s.fifo, { s with fifo := [] })

/-! ## The entropy port -/

/-- What `EntDraw(n)` yields (20_memory.md R70). -/
inductive Drawn where
  | ok (bytes : List Byte)
  | fail (code : BitVec 32)
deriving DecidableEq, Repr

/-- Exactly n bytes of answer k: the listed ones, and a free value for each that is not listed (20_memory.md R70: an `ok`
answer is never short; log 4). -/
def answerBytes (k n : Nat) (listed : List Byte) : List Byte :=
  (List.range n).map fun i => listed.getD i (Config.entByte k i)

/-- `EntDraw(n)`: the next listed answer, or, past the end of the list, a free one (20_memory.md R70; log 4). -/
def State.entDraw (s : State) (n : Nat) : Drawn × State :=
  match s.ent with
  | .ok b :: rest => (.ok (answerBytes s.draws n b), { s with ent := rest, draws := s.draws + 1 })
  | .fail c :: rest => (.fail c, { s with ent := rest, draws := s.draws + 1 })
  | [] =>
    ((match Config.entFail s.draws with
      | some c => .fail c
      | none => .ok (answerBytes s.draws n [])),
     { s with draws := s.draws + 1 })

/-! ## The register space -/

/-- Whether the STATE window shows a byte the spec gives no value: VALID = 0, or AESRAND before its first GEN, when BUF
holds no value (10_state.md R35, 45_seeding.md R336; log 7). -/
def State.windowFree (s : State) : Bool :=
  !s.valid || (decide (s.cfg.fam = Fam.aesrand.code) && s.inst.buf.isEmpty)

/-- Byte b of the STATE window: the state image, then for AESRAND the 16 bytes of BUF, then zeros; a byte without a value
is a free value (10_state.md R35; log 7). -/
def State.windowByte (s : State) (b : Nat) : Byte :=
  if !s.valid then Config.windowByte s.draws b
  else if b < s.inst.stateImage.length then s.inst.stateImage.getD b 0
  else if decide (s.cfg.fam = Fam.aesrand.code) && decide (b < s.inst.stateImage.length + 16) then
    if s.inst.buf.isEmpty then Config.windowByte s.draws b
    else (image s.inst.buf).getD (b - s.inst.stateImage.length) 0
  else 0

/-- The 32-bit word at byte b of the STATE window (10_state.md R35). -/
def State.windowWord (s : State) (b : Nat) : Word :=
  leWord 32 [s.windowByte b, s.windowByte (b + 1), s.windowByte (b + 2), s.windowByte (b + 3)]

/-- The value of the register at an aligned offset below 0x800 (10_state.md R30): CMD and SEEDIN are write-only and read
0, reserved offsets read 0. -/
def State.readReg (s : State) (off : Nat) : Word :=
  match off with
  | 0x004 => s.status
  | 0x008 => s.err.bits.setWidth 32
  | 0x00C => s.entcode
  | 0x010 => s.len
  | 0x018 => BitVec.ofNat 32 s.fifo.length
  | 0x01C => s.errcmd
  | _ => if 0x400 ≤ off then s.windowWord (off - 0x400) else 0

/-- A register read: the host gets the value; the engine is unchanged (20_memory.md R72). Where the window showed a free
value, the next one is another (log 7). -/
def State.hostRead (s : State) (off : Nat) : State :=
  { s with
    rdata := s.readReg off
    draws := if decide (0x400 ≤ off) && s.windowFree then s.draws + 1 else s.draws }

/-- A register write other than to CMD: LEN stores, SEEDIN pushes the low byte, every other offset ignores it; none is
blocked by a recorded error (10_state.md R30, 47_control.md R368). -/
def State.hostWrite (s : State) (off : Nat) (v : Word) : State :=
  match off with
  | 0x010 => { s with len := v }
  | 0x014 => s.seedPush (v.setWidth 8)
  | _ => s

/-! ## Reset -/

/-- The RESET command: every piece of state but OUT's history takes its reset value (47_control.md R363). -/
def State.softReset (s : State) : State :=
  { s with
    cfg := ⟨0, 0⟩, valid := false, inst := Inst.empty, err := .none, errcmd := 0, entcode := 0, len := 0, fifo := [] }

/-- The hardware reset: as RESET, and OUT's history starts empty (70_reset_and_hazards.md R410). -/
def State.hardReset (s : State) : State := { s.softReset with out := [] }

/-! ## The wrappers of the commands -/

/-- Steps 3 and 4 of command issue for a command that is not CLRERR or RESET: ignored while an error is recorded,
E_ILLEGAL where the command is not well-formed, else the command's own effect (47_control.md R360, R365;
60_exceptions.md R384). -/
def State.command (s : State) (i : Instr) (effect : State → State) : State :=
  if s.err ≠ .none then s
  else if i.wf then effect s
  else s.raise .illegal (encode i) 0

/-- The checks of GEN and FILL, in order: VALID, then FAM and LN against CFG (47_control.md R364, R365). -/
def State.withInstance (s : State) (i : Instr) (c : Cfg) (effect : State → State) : State :=
  s.command i fun s =>
    if s.valid = false then s.raise .notSeeded (encode i) 0
    else if s.cfg ≠ c then s.raise .mismatch (encode i) 0
    else effect s

/-- A family's step: the new instance and the image of the output vector (47_control.md R364). -/
abbrev StepFn := Inst → Inst × List Byte

/-- GEN: one step, and its image on OUT (47_control.md R364). -/
def State.genWith (s : State) (i : Instr) (c : Cfg) (step : StepFn) : State :=
  s.withInstance i c fun s =>
    { s with inst := (step s.inst).1 }.outAppend (step s.inst).2

/-- The loop of FILL with `rem` bytes still to append: each step appends the first `min(VB, rem)` bytes of its image and
the rest of the image is discarded (46_byte_adapter.md R350, R351). `fuel` bounds the number of steps; every image has at
least one byte, so `rem` steps are enough. -/
def fillLoop (step : StepFn) : (fuel rem : Nat) → Inst → Inst × List Byte
  | 0, _, i => (i, [])
  | fuel + 1, rem, i =>
    if rem = 0 then (i, [])
    else
      let r := step i
      let t := fillLoop step fuel (rem - min r.2.length rem) r.1
      (t.1, r.2.take rem ++ t.2)

/-- FILL: LEN bytes in one append; LEN is unchanged (46_byte_adapter.md R350). -/
def State.fillWith (s : State) (i : Instr) (c : Cfg) (step : StepFn) : State :=
  s.withInstance i c fun s =>
    let r := fillLoop step s.len.toNat s.len.toNat s.inst
    { s with inst := r.1 }.outAppend r.2

/-! ## Seeding -/

/-- How a family's instance is made from the bytes of a seed image: the length SB, the words the bytes load with the
deterministic fixups applied, and the validator's test of them (20_memory.md R64, 45_seeding.md R301, R304, R343). -/
structure SeedProc where
  sb : Nat
  load : List Byte → List LaneVec
  accept : List LaneVec → Bool

/-- How the draws of a seeding end: the validator accepts the words; a draw failed; or never, because no further
request is answered with a failure or a draw that the validator takes (45_seeding.md R346, 70_reset_and_hazards.md R416;
log 5). -/
inductive SeedEnd where
  | done (S : List LaneVec) (s : State)
  | failed (code : BitVec 32) (s : State)
  | never (s : State)

/-- The loop of 45_seeding.md R303, with a source that answers `fuel` requests: draw SB bytes, load them, and draw the whole
state again while the validator rejects it. A family without a test accepts its first draw. -/
def seedLoop (p : SeedProc) : (fuel : Nat) → State → SeedEnd
  | 0, s => .never s
  | fuel + 1, s =>
    match s.entDraw p.sb with
    | (.fail c, s') => .failed c s'
    | (.ok b, s') => if p.accept (p.load b) then .done (p.load b) s' else seedLoop p fuel s'

/-- How many requests of a seeding the entropy source answers: every listed answer, and a free number more, which nothing
bounds (20_memory.md R70, 70_reset_and_hazards.md R416; log 5). -/
def State.answered (s : State) : Nat := Config.entAnswers s.draws + s.ent.length

/-- The end of SEED_RNG or SEED_BLOCKS: the instance with the words `post` makes of the accepted ones (45_seeding.md R300),
or E_ENTROPY and no instance (R345), or the command never completes (R346; log 5). -/
def SeedEnd.finish (e : SeedEnd) (i : Instr) (c : Cfg) (post : List LaneVec → List LaneVec) : State :=
  match e with
  | .done S s => s.install c (post S)
  | .failed code s => s.raise .entropy (encode i) code
  | .never s => { s with pend := some i }

/-- SEED_RNG for every family but the two LFSRs (45_seeding.md R300, R303). -/
def State.seedRngWith (s : State) (i : Instr) (c : Cfg) (p : SeedProc) : State :=
  s.command i fun s => (seedLoop p s.answered s.dropInstance).finish i c id

/-- SEED_FIXED (45_seeding.md R343, R344): the FIFO is emptied first; E_UNSUPPORTED keeps the old instance; then the old
instance is gone, and a wrong length or a seed the validator rejects raises E_BAD_SEED. -/
def State.seedFixedWith (s : State) (i : Instr) (f : Fam) (c : Cfg) (p : SeedProc) : State :=
  s.command i fun s =>
    let (bytes, s) := s.seedPopAll
    if f ∉ s.par.fixedSeed then s.raise .unsupported (encode i) 0
    else if bytes.length ≠ p.sb then s.dropInstance.raise .badSeed (encode i) 0
    else if p.accept (p.load bytes) then s.dropInstance.install c (p.load bytes)
    else s.dropInstance.raise .badSeed (encode i) 0

/-- SEED_BLOCKS on a family that has no block-jump seeding: E_UNSUPPORTED, and nothing else changes
(45_seeding.md R342). -/
def State.seedBlocksUnsupported (s : State) (i : Instr) : State :=
  s.command i fun s => s.raise .unsupported (encode i) 0

end Sys2Proof.Machine
end

