-- ==== Sys2Proof/Machine/Control.lean ====
section
/-! DEFINITION. The control commands (47_control.md R361 to R363). -/

namespace Sys2Proof.Machine

/-- NOP: no effect, with or without a recorded error (47_control.md R361). -/
def execNop (s : State) : Result := .next s

/-- CLRERR: the return from an error, whatever ERR.CODE is (47_control.md R362). -/
def execClrerr (s : State) : Result := .next s.clearError

/-- RESET, whatever ERR.CODE is (47_control.md R363). -/
def execReset (s : State) : Result := .next s.softReset

end Sys2Proof.Machine
end

