-- ==== Sys2Proof/Machine/Aes.lean ====
section
/-! DEFINITION. The AES rounds on a 128-bit value (40_lane_vector.md R142 to R144, R147, R148). -/

namespace Sys2Proof.Machine

/-! ## The S-boxes -/

/-- The rows of SBOX: row = high nibble of x, columns 0 to f from left to right, two digits each (40_lane_vector.md R147). -/
def sboxRows : List Nat :=
  [0x637c777bf26b6fc53001672bfed7ab76, 0xca82c97dfa5947f0add4a2af9ca472c0,
   0xb7fd9326363ff7cc34a5e5f171d83115, 0x04c723c31896059a071280e2eb27b275,
   0x09832c1a1b6e5aa0523bd6b329e32f84, 0x53d100ed20fcb15b6acbbe394a4c58cf,
   0xd0efaafb434d338545f9027f503c9fa8, 0x51a3408f929d38f5bcb6da2110fff3d2,
   0xcd0c13ec5f974417c4a77e3d645d1973, 0x60814fdc222a908846eeb814de5e0bdb,
   0xe0323a0a4906245cc2d3ac629195e479, 0xe7c8376d8dd54ea96c56f4ea657aae08,
   0xba78252e1ca6b4c6e8dd741f4bbd8b8a, 0x703eb5664803f60e613557b986c11d9e,
   0xe1f8981169d98e949b1e87e9ce5528df, 0x8ca1890dbfe6426841992d0fb054bb16]

/-- The rows of INV_SBOX, laid out as those of SBOX (40_lane_vector.md R147). -/
def invSboxRows : List Nat :=
  [0x52096ad53036a538bf40a39e81f3d7fb, 0x7ce339829b2fff87348e4344c4dee9cb,
   0x547b9432a6c2233dee4c950b42fac34e, 0x082ea16628d924b2765ba2496d8bd125,
   0x72f8f66486689816d4a45ccc5d65b692, 0x6c704850fdedb9da5e154657a78d9d84,
   0x90d8ab008cbcd30af7e45805b8b34506, 0xd02c1e8fca3f0f02c1afbd0301138a6b,
   0x3a9111414f67dcea97f2cfcef0b4e673, 0x96ac7422e7ad3585e2f937e81c75df6e,
   0x47f11a711d29c5896fb7620eaa18be1b, 0xfc563e4bc6d279209adbc0fe78cd5af4,
   0x1fdda8338807c731b11210592780ec5f, 0x60517fa919b54a0d2de57a9f93c99cef,
   0xa0e03b4dae2af5b0c8ebbb3c83539961, 0x172b047eba77d626e169146355210c7d]

/-- The entry of a table for the byte x: row = high nibble, column = low nibble, column 0 leftmost. -/
def tableLookup (rows : List Nat) (x : Byte) : Byte :=
  BitVec.ofNat 8 ((rows.getD (x.toNat / 16) 0) >>> (8 * (15 - x.toNat % 16)))

/-- `SBOX[x]` (40_lane_vector.md R147). -/
def sbox (x : Byte) : Byte := tableLookup sboxRows x

/-- `INV_SBOX[x]` (40_lane_vector.md R147). -/
def invSbox (x : Byte) : Byte := tableLookup invSboxRows x

/-! ## The four layers of a round, on the 16 bytes of a block: the entry of row r and column c is byte r + 4c (R148) -/

/-- The 16 bytes of a block, byte i = `v[8i+7:8i]` (40_lane_vector.md R148). -/
def blockBytes (v : BitVec 128) : List Byte := laneImage v

/-- The block of 16 bytes (40_lane_vector.md R148). -/
def bytesBlock (b : List Byte) : BitVec 128 := leWord 128 b

/-- ShiftRows: row r, column c becomes the old row r, column (c + r) mod 4 (40_lane_vector.md R142 (1)). -/
def shiftRows (b : List Byte) : List Byte :=
  (List.range 16).map fun i => b.getD (i % 4 + 4 * ((i / 4 + i % 4) % 4)) 0

/-- InvShiftRows: row r, column c becomes the old row r, column (c − r) mod 4 (40_lane_vector.md R144 (1)). -/
def invShiftRows (b : List Byte) : List Byte :=
  (List.range 16).map fun i => b.getD (i % 4 + 4 * ((i / 4 + 4 - i % 4) % 4)) 0

/-- `2·x` in GF(2^8) modulo 0x11B (40_lane_vector.md R142 (3)). -/
def gf2 (x : Byte) : Byte := (x <<< 1) ^^^ (if 0x80 ≤ x.toNat then 0x1B else 0)

/-- `n·x` in GF(2^8) for the constants of the mixes, n below 16: the sum of the doublings at the set bits of n. -/
def gfMul (n : BitVec 4) (x : Byte) : Byte :=
  (if n.getLsbD 0 then x else 0) ^^^ (if n.getLsbD 1 then gf2 x else 0)
    ^^^ (if n.getLsbD 2 then gf2 (gf2 x) else 0) ^^^ (if n.getLsbD 3 then gf2 (gf2 (gf2 x)) else 0)

/-- One row of a mix: `n0·a0 ^ n1·a1 ^ n2·a2 ^ n3·a3`. -/
def mixRow (n0 n1 n2 n3 : BitVec 4) (a0 a1 a2 a3 : Byte) : Byte :=
  gfMul n0 a0 ^^^ gfMul n1 a1 ^^^ gfMul n2 a2 ^^^ gfMul n3 a3

/-- A mix of every column by the matrix whose first row is (n0, n1, n2, n3) and whose every later row is the one above it
turned right by one place, as both matrices of R142 (3) and R144 (3) are. -/
def mixWith (n0 n1 n2 n3 : BitVec 4) (b : List Byte) : List Byte :=
  (List.range 4).flatMap fun c =>
    let a0 := b.getD (4 * c) 0
    let a1 := b.getD (4 * c + 1) 0
    let a2 := b.getD (4 * c + 2) 0
    let a3 := b.getD (4 * c + 3) 0
    [mixRow n0 n1 n2 n3 a0 a1 a2 a3, mixRow n3 n0 n1 n2 a0 a1 a2 a3,
     mixRow n2 n3 n0 n1 a0 a1 a2 a3, mixRow n1 n2 n3 n0 a0 a1 a2 a3]

/-- MixColumns (40_lane_vector.md R142 (3)). -/
def mixColumns (b : List Byte) : List Byte := mixWith 2 3 1 1 b

/-- InvMixColumns (40_lane_vector.md R144 (3)). -/
def invMixColumns (b : List Byte) : List Byte := mixWith 14 11 13 9 b

/-! ## The rounds -/

/-- `aes_enc(v, k)` (40_lane_vector.md R142). -/
def aesEnc (v k : BitVec 128) : BitVec 128 :=
  bytesBlock (mixColumns ((shiftRows (blockBytes v)).map sbox)) ^^^ k

/-- `aes_enclast(v, k)`: no MixColumns (40_lane_vector.md R143). -/
def aesEncLast (v k : BitVec 128) : BitVec 128 :=
  bytesBlock ((shiftRows (blockBytes v)).map sbox) ^^^ k

/-- `aes_dec(v, k)` (40_lane_vector.md R144). -/
def aesDec (v k : BitVec 128) : BitVec 128 :=
  bytesBlock (invMixColumns ((invShiftRows (blockBytes v)).map invSbox)) ^^^ k

end Sys2Proof.Machine
end

