-- ==== Sys2Proof/Machine/Chacha.lean ====
section
/-! DEFINITION. GEN for the ChaCha, ARS, AesRand and SSE LCG families (44_chacha_aes_sse.md), each of one fixed shape. -/

namespace Sys2Proof.Machine

/-! ## ChaCha -/

/-- The constants c[0..3] (44_chacha_aes_sse.md R260). -/
def chachaConstants : List (BitVec 32) := [0x61707865, 0x3320646E, 0x79622D32, 0x6B206574]

/-- A rotate tuple (r1, r2, r3, r4) (44_chacha_aes_sse.md R261). -/
structure RotTuple where
  r1 : Nat
  r2 : Nat
  r3 : Nat
  r4 : Nat
deriving DecidableEq, Repr

/-- The quarter-round on four words, its eight operations in order (44_chacha_aes_sse.md R261). -/
def quarterWords (r : RotTuple) (a b c d : BitVec 32) : BitVec 32 × BitVec 32 × BitVec 32 × BitVec 32 :=
  let a := a + b
  let d := rotl (d ^^^ a) r.r1
  let c := c + d
  let b := rotl (b ^^^ c) r.r2
  let a := a + b
  let d := rotl (d ^^^ a) r.r3
  let c := c + d
  let b := rotl (b ^^^ c) r.r4
  (a, b, c, d)

/-- A double-round on the working array: the column round, then the diagonal round (44_chacha_aes_sse.md R264). -/
def doubleRound (r : RotTuple) (x : List (BitVec 32)) : List (BitVec 32) :=
  match x with
  | [x0, x1, x2, x3, x4, x5, x6, x7, x8, x9, x10, x11, x12, x13, x14, x15] =>
    let (x0, x4, x8, x12) := quarterWords r x0 x4 x8 x12
    let (x1, x5, x9, x13) := quarterWords r x1 x5 x9 x13
    let (x2, x6, x10, x14) := quarterWords r x2 x6 x10 x14
    let (x3, x7, x11, x15) := quarterWords r x3 x7 x11 x15
    let (x0, x5, x10, x15) := quarterWords r x0 x5 x10 x15
    let (x1, x6, x11, x12) := quarterWords r x1 x6 x11 x12
    let (x2, x7, x8, x13) := quarterWords r x2 x7 x8 x13
    let (x3, x4, x9, x14) := quarterWords r x3 x4 x9 x14
    [x0, x1, x2, x3, x4, x5, x6, x7, x8, x9, x10, x11, x12, x13, x14, x15]
  | x => x

/-- A function applied `k` times. -/
def repeated {α : Type} (f : α → α) : Nat → α → α
  | 0, x => x
  | k + 1, x => repeated f k (f x)

/-- `BLOCK(c; DR; r1, r2, r3, r4)`: the double-rounds, then the feed-forward addition (44_chacha_aes_sse.md R264). -/
def chachaBlock (DR : Nat) (r : RotTuple) (c : Vec 32) : Vec 32 := vadd (repeated (doubleRound r) DR c) c

/-- The sixteen words c[0..15], each a register of one lane (44_chacha_aes_sse.md R260). -/
def Inst.chachaWords (i : Inst) : Vec 32 := (List.range 16).map fun k => (i.s32 k).headD 0

/-- The block counter c[12] + 2^32 · c[13], advanced by one modulo 2^64 (44_chacha_aes_sse.md R262). -/
def chachaCounter (c : Vec 32) : BitVec 64 := (c.getD 13 0 ++ c.getD 12 0 : BitVec 64) + 1

/-- A ChaCha step with a rotate tuple: the block of the old counter, then the counter advances (44_chacha_aes_sse.md
R262, R263). -/
def stepChacha (p : Params) (r : RotTuple) : StepFn := fun i =>
  let c := i.chachaWords
  let ctr := chachaCounter c
  (i.put (((c.set 12 (ctr.extractLsb' 0 32)).set 13 (ctr.extractLsb' 32 32)).map fun w => .u32 [w]),
   image (chachaBlock p.chachaDoubleRounds r c))

/-- The step of CHACHA4 (44_chacha_aes_sse.md R262). -/
def stepChacha4 (p : Params) : StepFn := stepChacha p ⟨16, 12, 8, 7⟩

/-- The step of CHACHA4F (44_chacha_aes_sse.md R263). -/
def stepChacha4f (p : Params) : StepFn := stepChacha p ⟨16, 16, 8, 8⟩

/-! ## ARS -/

/-- WEYL, the first constant in the low 64-bit lane (44_chacha_aes_sse.md R267). -/
def arsWeyl : BitVec 128 := 0xBB67AE8584CAA73B9E3779B97F4A7C15

/-- ARS's rounds: the key is advanced before each; the last one is the last-round variant (44_chacha_aes_sse.md R267).
`m` is the number of rounds before the last. -/
def arsRounds : (m : Nat) → (k v : BitVec 128) → BitVec 128
  | 0, k, v => aesEncLast v (add64x2 k arsWeyl)
  | m + 1, k, v => arsRounds m (add64x2 k arsWeyl) (aesEnc v (add64x2 k arsWeyl))

/-- The output of `ARS(R)` (44_chacha_aes_sse.md R267). -/
def arsOut (p : Params) (R : Nat) (ctr key : BitVec 128) : BitVec 128 :=
  arsRounds (R - 1) key (if p.arsPrewhiten then ctr ^^^ key else ctr)

/-- `ARS(R)`: the key is unchanged and the counter advances lanewise after the output (44_chacha_aes_sse.md R267). -/
def stepArs (p : Params) (R : Nat) : StepFn := fun i =>
  (i.put [.u128 ((i.s128 0).map (add64x2 · (p.arsCtrIncHigh ++ p.arsCtrIncLow))), .u128 (i.s128 1)],
   image (List.zipWith (arsOut p R) (i.s128 0) (i.s128 1)))

/-- The step of ARS5 (44_chacha_aes_sse.md R268). -/
def stepArs5 (p : Params) : StepFn := stepArs p 5

/-- The step of ARS7 (44_chacha_aes_sse.md R269). -/
def stepArs7 (p : Params) : StepFn := stepArs p 7

/-! ## AesRand -/

/-- The step of AESRAND: the buffered half is returned and BUF is left as it is; or the counter advances, the aesenc half
of the new counter is returned and the aesdec half buffered (44_chacha_aes_sse.md R270). -/
def stepAesrand (p : Params) : StepFn := fun i =>
  if i.bufv then ({ i with bufv := false }, image i.buf)
  else
    let ctr := (i.s128 0).map (add64x2 · p.aesrandInc)
    ({ S := [.u128 ctr], buf := ctr.map (aesDec · p.aesrandKey), bufv := true },
     image (ctr.map (aesEnc · p.aesrandKey)))

/-! ## Intel SSE LCG -/

/-- The step of SSELCG: the output is the new state (44_chacha_aes_sse.md R271). -/
def stepSselcg (p : Params) : StepFn := fun i =>
  let s := vadd (vmul (i.s32 0) p.sseMul.toList) p.sseAdd.toList
  (i.put [.u32 s], image s)

/-! ## The meanings -/

/-- GEN.CHACHA4 (44_chacha_aes_sse.md R262). -/
def execGenChacha4 (s : State) : Result :=
  .next (s.genWith .genChacha4 (cfgOf .chacha4 .x2) (stepChacha4 s.par))

/-- GEN.CHACHA4F (44_chacha_aes_sse.md R263). -/
def execGenChacha4f (s : State) : Result :=
  .next (s.genWith .genChacha4f (cfgOf .chacha4f .x2) (stepChacha4f s.par))

/-- GEN.ARS5 (44_chacha_aes_sse.md R268). -/
def execGenArs5 (s : State) : Result :=
  .next (s.genWith .genArs5 (cfgOf .ars5 .x2) (stepArs5 s.par))

/-- GEN.ARS7 (44_chacha_aes_sse.md R269). -/
def execGenArs7 (s : State) : Result :=
  .next (s.genWith .genArs7 (cfgOf .ars7 .x2) (stepArs7 s.par))

/-- GEN.AESRAND (44_chacha_aes_sse.md R270). -/
def execGenAesrand (s : State) : Result :=
  .next (s.genWith .genAesrand (cfgOf .aesrand .x2) (stepAesrand s.par))

/-- GEN.SSELCG (44_chacha_aes_sse.md R271). -/
def execGenSselcg (s : State) : Result :=
  .next (s.genWith .genSselcg (cfgOf .sselcg .x2) (stepSselcg s.par))

end Sys2Proof.Machine
end

