-- ==== Sys2Proof/Machine/Jsf.lean ====
section
/-! DEFINITION. GEN for the JSF, LFSR, MWC, SFC and XSM families (43_jsf_lfsr_mwc_sfc_xsm.md). -/

namespace Sys2Proof.Machine

/-! ## The steps on lane vectors -/

/-- JSF with rotates X and Z, its five assignments in order: the new (a, b, c, d); the output is the new d
(43_jsf_lfsr_mwc_sfc_xsm.md R220, R221). -/
def jsf {W : Nat} (X Z : Nat) (a b c d : Vec W) : Vec W × Vec W × Vec W × Vec W :=
  let e := vsub a (vrotl b X)
  let a := vxor b (vrotl c Z)
  let b := vadd c d
  let c := vadd d e
  let d := vadd e a
  (a, b, c, d)

/-- `MASK = ~(2^k - 1)` (43_jsf_lfsr_mwc_sfc_xsm.md R222). -/
def lfsrMask {W : Nat} (r : LfsrRow W) : BitVec W := ~~~lfsrThreshold r

/-- The update of one LFSR word by its table row (43_jsf_lfsr_mwc_sfc_xsm.md R222). -/
def lfsrWord {W : Nat} (r : LfsrRow W) (w : Vec W) : Vec W :=
  let b := vshr (vxor (vshl w r.s1 r.s1.isLt) w) r.s2 r.s2.isLt
  vxor (vshl (vandc w (lfsrMask r)) r.s3 r.s3.isLt) b

/-- The new words of an LFSR state, each from itself alone (43_jsf_lfsr_mwc_sfc_xsm.md R222, R223). -/
def lfsrWords {W : Nat} (tab : List (LfsrRow W)) (ws : List (Vec W)) : List (Vec W) :=
  List.zipWith lfsrWord tab ws

/-- The xor of all the words, from 0 (43_jsf_lfsr_mwc_sfc_xsm.md R222). -/
def xorWords {W : Nat} (ws : List (Vec W)) : Vec W :=
  match ws with
  | [] => []
  | w :: rest => (w :: rest).foldl vxor (vsplat 0 w)

/-- MWC: the new x, un-mixed; lane j multiplies by factor j, the factors being the first N of the eight
(43_jsf_lfsr_mwc_sfc_xsm.md R224). With more lanes than factors, which R95 (d) of 30_encoding.md admits nowhere, the lanes
past the factors are dropped (DESIGN CHOICE, log 20). -/
def mwcNext (factors : List (BitVec 32)) (x : Vec 64) : Vec 64 :=
  vadd (vwmul32 x (vzext 64 (factors.take x.length))) (vshr x 32)

/-- MWC's output mixing (43_jsf_lfsr_mwc_sfc_xsm.md R224). -/
def mwcMix (y : Vec 64) : Vec 64 :=
  let y := vxor y (vshl y 30)
  let y := vxor y (vshr y 35)
  vxor y (vshl y 13)

/-- SFC's output `a + b + counter` (43_jsf_lfsr_mwc_sfc_xsm.md R225). -/
def sfcOut {W : Nat} (a b counter : Vec W) : Vec W := vadd (vadd a b) counter

/-- SFC with (rot, shr, shl): the new (a, b, c, counter) (43_jsf_lfsr_mwc_sfc_xsm.md R225 to R227). -/
def sfc {W : Nat} (rot sr sl : Nat) (hr : sr < W) (hl : sl < W) (a b c counter : Vec W) :
    Vec W × Vec W × Vec W × Vec W :=
  let tmp := sfcOut a b counter
  let counter := vaddc counter 1
  let a := vxor b (vshr b sr hr)
  let b := vadd c (vshl c sl hl)
  let c := vadd (vrotl c rot) tmp
  (a, b, c, counter)

/-- The state words of lane j (43_jsf_lfsr_mwc_sfc_xsm.md R228). -/
def laneOf {W : Nat} (ws : List (Vec W)) (j : Nat) : List (BitVec W) := ws.map fun v => v.getD j 0

/-- One XSM lane: the pair (lcg_low, lcg_high) is advanced by an addition whose carry out of the low word enters the high
word; what is added, the other words and the output are free functions of the lane's state
(43_jsf_lfsr_mwc_sfc_xsm.md R228 (a) to (d), R229; log 9). -/
def xsmLane {W : Nat} (K : Nat) (ws : List (BitVec W)) : List (BitVec W) × BitVec W :=
  let low := ws.getD 0 0 + Config.xsmAddLow W ws
  let carry : BitVec W := if low.toNat < (ws.getD 0 0).toNat then 1 else 0
  let high := ws.getD 1 0 + Config.xsmAddHigh W ws + carry
  (low :: high :: (List.range (K - 2)).map fun k => Config.xsmWord W ws (k + 2), Config.xsmOut W ws)

/-- XSM, lane by lane: the new words and the output (43_jsf_lfsr_mwc_sfc_xsm.md R228, R229). -/
def xsm {W : Nat} (K : Nat) (ws : List (Vec W)) : List (Vec W) × Vec W :=
  let lanes := (List.range (ws.headD []).length).map fun j => xsmLane K (laneOf ws j)
  ((List.range K).map fun k => lanes.map fun l => l.1.getD k 0, lanes.map fun l => l.2)

/-! ## The steps on the instance -/

/-- The step of JSF32: rotates 9 and 16 (43_jsf_lfsr_mwc_sfc_xsm.md R220). -/
def stepJsf32 : StepFn := fun i =>
  let r := jsf 9 16 (i.s32 0) (i.s32 1) (i.s32 2) (i.s32 3)
  (i.put [.u32 r.1, .u32 r.2.1, .u32 r.2.2.1, .u32 r.2.2.2], image r.2.2.2)

/-- The step of JSF64: rotates 39 and 11 (43_jsf_lfsr_mwc_sfc_xsm.md R221). -/
def stepJsf64 : StepFn := fun i =>
  let r := jsf 39 11 (i.s64 0) (i.s64 1) (i.s64 2) (i.s64 3)
  (i.put [.u64 r.1, .u64 r.2.1, .u64 r.2.2.1, .u64 r.2.2.2], image r.2.2.2)

/-- The step of LFSR113 (43_jsf_lfsr_mwc_sfc_xsm.md R222). -/
def stepLfsr113 (p : Params) : StepFn := fun i =>
  let ws := lfsrWords p.lfsr113Tab.toList ((List.range 4).map i.s32)
  (i.put (ws.map .u32), image (xorWords ws))

/-- The step of LFSR258 (43_jsf_lfsr_mwc_sfc_xsm.md R223). -/
def stepLfsr258 (p : Params) : StepFn := fun i =>
  let ws := lfsrWords p.lfsr258Tab.toList ((List.range 5).map i.s64)
  (i.put (ws.map .u64), image (xorWords ws))

/-- The step of MWC: the un-mixed value is stored, the mixed one is the output (43_jsf_lfsr_mwc_sfc_xsm.md R224). -/
def stepMwc (p : Params) : StepFn := fun i =>
  let y := mwcNext p.mwcFactor.toList (i.s64 0)
  (i.put [.u64 y], image (mwcMix y))

/-- The step of SFC64: (24, 11, 3) (43_jsf_lfsr_mwc_sfc_xsm.md R225). -/
def stepSfc64 : StepFn := fun i =>
  let r := sfc 24 11 3 (by decide) (by decide) (i.s64 0) (i.s64 1) (i.s64 2) (i.s64 3)
  (i.put [.u64 r.1, .u64 r.2.1, .u64 r.2.2.1, .u64 r.2.2.2], image (sfcOut (i.s64 0) (i.s64 1) (i.s64 3)))

/-- The step of SFC32: (21, 9, 3) (43_jsf_lfsr_mwc_sfc_xsm.md R226). -/
def stepSfc32 : StepFn := fun i =>
  let r := sfc 21 9 3 (by decide) (by decide) (i.s32 0) (i.s32 1) (i.s32 2) (i.s32 3)
  (i.put [.u32 r.1, .u32 r.2.1, .u32 r.2.2.1, .u32 r.2.2.2], image (sfcOut (i.s32 0) (i.s32 1) (i.s32 3)))

/-- The step of SFC16: (6, 5, 3) (43_jsf_lfsr_mwc_sfc_xsm.md R227). -/
def stepSfc16 : StepFn := fun i =>
  let r := sfc 6 5 3 (by decide) (by decide) (i.s16 0) (i.s16 1) (i.s16 2) (i.s16 3)
  (i.put [.u16 r.1, .u16 r.2.1, .u16 r.2.2.1, .u16 r.2.2.2], image (sfcOut (i.s16 0) (i.s16 1) (i.s16 3)))

/-- The step of XSM32 (43_jsf_lfsr_mwc_sfc_xsm.md R228; log 9). -/
def stepXsm32 (p : Params) : StepFn := fun i =>
  let r := xsm p.xsmK ((List.range p.xsmK).map i.s32)
  (i.put (r.1.map .u32), image r.2)

/-- The step of XSM64 (43_jsf_lfsr_mwc_sfc_xsm.md R229; log 9). -/
def stepXsm64 (p : Params) : StepFn := fun i =>
  let r := xsm p.xsmK ((List.range p.xsmK).map i.s64)
  (i.put (r.1.map .u64), image r.2)

/-! ## The meanings -/

/-- GEN.JSF32 (43_jsf_lfsr_mwc_sfc_xsm.md R220). -/
def execGenJsf32 (n : Lanes) (s : State) : Result :=
  .next (s.genWith (.genJsf32 n) (cfgOf .jsf32 n) stepJsf32)

/-- GEN.JSF64 (43_jsf_lfsr_mwc_sfc_xsm.md R221). -/
def execGenJsf64 (n : Lanes) (s : State) : Result :=
  .next (s.genWith (.genJsf64 n) (cfgOf .jsf64 n) stepJsf64)

/-- GEN.LFSR113 (43_jsf_lfsr_mwc_sfc_xsm.md R222). -/
def execGenLfsr113 (n : Lanes) (s : State) : Result :=
  .next (s.genWith (.genLfsr113 n) (cfgOf .lfsr113 n) (stepLfsr113 s.par))

/-- GEN.LFSR258 (43_jsf_lfsr_mwc_sfc_xsm.md R223). -/
def execGenLfsr258 (n : Lanes) (s : State) : Result :=
  .next (s.genWith (.genLfsr258 n) (cfgOf .lfsr258 n) (stepLfsr258 s.par))

/-- GEN.MWC (43_jsf_lfsr_mwc_sfc_xsm.md R224). -/
def execGenMwc (n : Lanes) (s : State) : Result :=
  .next (s.genWith (.genMwc n) (cfgOf .mwc n) (stepMwc s.par))

/-- GEN.SFC64 (43_jsf_lfsr_mwc_sfc_xsm.md R225). -/
def execGenSfc64 (n : Lanes) (s : State) : Result :=
  .next (s.genWith (.genSfc64 n) (cfgOf .sfc64 n) stepSfc64)

/-- GEN.SFC32 (43_jsf_lfsr_mwc_sfc_xsm.md R226). -/
def execGenSfc32 (n : Lanes) (s : State) : Result :=
  .next (s.genWith (.genSfc32 n) (cfgOf .sfc32 n) stepSfc32)

/-- GEN.SFC16 (43_jsf_lfsr_mwc_sfc_xsm.md R227). -/
def execGenSfc16 (n : Lanes) (s : State) : Result :=
  .next (s.genWith (.genSfc16 n) (cfgOf .sfc16 n) stepSfc16)

/-- GEN.XSM32 (43_jsf_lfsr_mwc_sfc_xsm.md R228). -/
def execGenXsm32 (n : Lanes) (s : State) : Result :=
  .next (s.genWith (.genXsm32 n) (cfgOf .xsm32 n) (stepXsm32 s.par))

/-- GEN.XSM64 (43_jsf_lfsr_mwc_sfc_xsm.md R229). -/
def execGenXsm64 (n : Lanes) (s : State) : Result :=
  .next (s.genWith (.genXsm64 n) (cfgOf .xsm64 n) (stepXsm64 s.par))

end Sys2Proof.Machine
end

