-- ==== Sys2Proof/Machine/Pcg.lean ====
section
/-! DEFINITION. GEN for the PCG and LCG families (42_pcg_lcg.md). S[0] is `state`, S[1] is `inc`, which no step
changes; every output is computed from the old state. -/

namespace Sys2Proof.Machine

/-! ## The steps on lane vectors -/

/-- PCG_MUL, which the source gives (42_pcg_lcg.md R200). -/
def pcgMul : BitVec 64 := 6364136223846793005

/-- The advance `old * MUL + inc` (42_pcg_lcg.md R200, R204, R205). -/
def lcgAdvance {W : Nat} (mul : BitVec W) (old inc : Vec W) : Vec W := vadd (vmulc old mul) inc

/-- `trunc_32(((old >> 18) ^ old) >> 27)` (42_pcg_lcg.md R201). -/
def pcgXorshift (old : Vec 64) : Vec 32 := vtrunc 32 (vshr (vxor (vshr old 18) old) 27)

/-- PCG32's output: the truncated value rotated within 32 bits by the top five bits of the old state (42_pcg_lcg.md R201). -/
def pcg32Out (old : Vec 64) : Vec 32 := vrotrv (pcgXorshift old) (vtrunc 32 (vshr old 59))

/-- PCG32_XSH's output (42_pcg_lcg.md R202; log 8). -/
def pcgXshOut (p : Params) (old : Vec 64) : Vec 32 :=
  match p.pcgXshOut with
  | .standard => pcgXorshift old
  | .other => old.map Config.pcgXshOut

/-- PCG32_XSL's output (42_pcg_lcg.md R203; log 8). -/
def pcgXslOut (p : Params) (old : Vec 64) : Vec 32 :=
  match p.pcgXslOut with
  | .standard => vtrunc 32 (vxor (vshr old 32) old)
  | .other => old.map Config.pcgXslOut

/-- LCG32's output: the low half of the old state, or the high half (42_pcg_lcg.md R204). -/
def lcg32Out (p : Params) (old : Vec 64) : Vec 32 :=
  if p.lcgOutHigh then vtrunc 32 (vshr old 32) else vtrunc 32 old

/-- LCG16's output (42_pcg_lcg.md R205). -/
def lcg16Out (p : Params) (old : Vec 32) : Vec 16 :=
  if p.lcgOutHigh then vtrunc 16 (vshr old 16) else vtrunc 16 old

/-! ## The steps on the instance -/

/-- The step of PCG32 (42_pcg_lcg.md R200, R201). -/
def stepPcg32 : StepFn := fun i =>
  (i.put [.u64 (lcgAdvance pcgMul (i.s64 0) (i.s64 1)), .u64 (i.s64 1)], image (pcg32Out (i.s64 0)))

/-- The step of PCG32_XSH (42_pcg_lcg.md R202). -/
def stepPcg32Xsh (p : Params) : StepFn := fun i =>
  (i.put [.u64 (lcgAdvance pcgMul (i.s64 0) (i.s64 1)), .u64 (i.s64 1)], image (pcgXshOut p (i.s64 0)))

/-- The step of PCG32_XSL (42_pcg_lcg.md R203). -/
def stepPcg32Xsl (p : Params) : StepFn := fun i =>
  (i.put [.u64 (lcgAdvance pcgMul (i.s64 0) (i.s64 1)), .u64 (i.s64 1)], image (pcgXslOut p (i.s64 0)))

/-- The step of LCG32 (42_pcg_lcg.md R204). -/
def stepLcg32 (p : Params) : StepFn := fun i =>
  (i.put [.u64 (lcgAdvance p.lcg32Mul (i.s64 0) (i.s64 1)), .u64 (i.s64 1)], image (lcg32Out p (i.s64 0)))

/-- The step of LCG16 (42_pcg_lcg.md R205). -/
def stepLcg16 (p : Params) : StepFn := fun i =>
  (i.put [.u32 (lcgAdvance p.lcg16Mul (i.s32 0) (i.s32 1)), .u32 (i.s32 1)], image (lcg16Out p (i.s32 0)))

/-! ## The meanings -/

/-- GEN.PCG32 (42_pcg_lcg.md R201). -/
def execGenPcg32 (n : Lanes) (s : State) : Result :=
  .next (s.genWith (.genPcg32 n) (cfgOf .pcg32 n) stepPcg32)

/-- GEN.PCG32_XSH (42_pcg_lcg.md R202). -/
def execGenPcg32Xsh (n : Lanes) (s : State) : Result :=
  .next (s.genWith (.genPcg32Xsh n) (cfgOf .pcg32Xsh n) (stepPcg32Xsh s.par))

/-- GEN.PCG32_XSL (42_pcg_lcg.md R203). -/
def execGenPcg32Xsl (n : Lanes) (s : State) : Result :=
  .next (s.genWith (.genPcg32Xsl n) (cfgOf .pcg32Xsl n) (stepPcg32Xsl s.par))

/-- GEN.LCG32 (42_pcg_lcg.md R204). -/
def execGenLcg32 (n : Lanes) (s : State) : Result :=
  .next (s.genWith (.genLcg32 n) (cfgOf .lcg32 n) (stepLcg32 s.par))

/-- GEN.LCG16 (42_pcg_lcg.md R205). -/
def execGenLcg16 (n : Lanes) (s : State) : Result :=
  .next (s.genWith (.genLcg16 n) (cfgOf .lcg16 n) (stepLcg16 s.par))

end Sys2Proof.Machine
end

