-- ==== Sys2Proof/Machine/Xorshift.lean ====
section
/-! DEFINITION. GEN for the xorshift, xoroshiro and xoshiro families (41_xorshift_xoshiro.md): the steps on lane vectors,
the steps on the instance, and the meanings. -/

namespace Sys2Proof.Machine

/-! ## The steps on lane vectors -/

/-- XORSHIFT32: the new x, which is the output (41_xorshift_xoshiro.md R170). -/
def xorshift32 (x : Vec 32) : Vec 32 :=
  let x := vxor x (vshl x 13)
  let x := vxor x (vshr x 17)
  vxor x (vshl x 5)

/-- XORSHIFT128: the new w, which is the output (41_xorshift_xoshiro.md R171). -/
def xorshift128 (x w : Vec 32) : Vec 32 :=
  let t := vxor x (vshl x 11)
  vxor (vxor (vxor w (vshr w 19)) t) (vshr t 8)

/-- XORSHIFT128PLUS, the source's text read literally: the new S[1] (41_xorshift_xoshiro.md R172). -/
def xorshift128plusLiteral (s0 s1 : Vec 64) : Vec 64 :=
  let u := vxor s1 (vshl s1 23)
  vxor (vxor (vxor u s0) (vshr u 18)) (vshr s0 5)

/-- XORSHIFT128PLUS as published: the new S[1] (41_xorshift_xoshiro.md R172). -/
def xorshift128plusPublished (a b : Vec 64) : Vec 64 :=
  let u := vxor a (vshl a 23)
  vxor (vxor (vxor u b) (vshr u 18)) (vshr b 5)

/-- The output scrambler (41_xorshift_xoshiro.md R174). -/
def starstar {W : Nat} (v : Vec W) : Vec W := vmulc (vrotl (vmulc v 5) 7) 9

/-- XOROSHIRO128SS: the new words (41_xorshift_xoshiro.md R173). -/
def xoroshiro128 (s0 s1 : Vec 64) : Vec 64 × Vec 64 :=
  let t := vxor s1 s0
  (vxor (vxor (vrotl s0 24) t) (vshl t 16), vrotl t 37)

/-- The xoshiro update of four words with shift A and rotate B, its six assignments in order
(41_xorshift_xoshiro.md R175, R176). -/
def xoshiro4 {W : Nat} (A B : Nat) (hA : A < W) (s0 s1 s2 s3 : Vec W) : Vec W × Vec W × Vec W × Vec W :=
  let t := vshl s1 A hA
  let s2 := vxor s2 s0
  let s3 := vxor s3 s1
  let s1 := vxor s1 s2
  let s0 := vxor s0 s3
  let s2 := vxor s2 t
  let s3 := vrotl s3 B
  (s0, s1, s2, s3)

/-- The xoshiro update of eight words, its assignments in order (41_xorshift_xoshiro.md R177). -/
def xoshiro8 (s : List (Vec 64)) : List (Vec 64) :=
  match s with
  | [s0, s1, s2, s3, s4, s5, s6, s7] =>
    let t := vshl s1 11
    let s2 := vxor s2 s0
    let s5 := vxor s5 s1
    let s1 := vxor s1 s2
    let s7 := vxor s7 s3
    let s3 := vxor s3 s4
    let s4 := vxor s4 s5
    let s0 := vxor s0 s6
    let s6 := vxor s6 s7
    let s6 := vxor s6 t
    let s7 := vrotl s7 21
    [s0, s1, s2, s3, s4, s5, s6, s7]
  | s => s

/-! ## The steps on the instance -/

/-- The step of XORSHIFT32 (41_xorshift_xoshiro.md R170). -/
def stepXorshift32 : StepFn := fun i =>
  let x := xorshift32 (i.s32 0)
  (i.put [.u32 x], image x)

/-- The step of XORSHIFT128 (41_xorshift_xoshiro.md R171). -/
def stepXorshift128 : StepFn := fun i =>
  let nw := xorshift128 (i.s32 0) (i.s32 3)
  (i.put [.u32 (i.s32 1), .u32 (i.s32 2), .u32 (i.s32 3), .u32 nw], image nw)

/-- The step of XORSHIFT128PLUS; the parameter picks the reading (41_xorshift_xoshiro.md R172). -/
def stepXorshift128plus (p : Params) : StepFn := fun i =>
  let n1 := if p.xorshift128plusPublished then xorshift128plusPublished (i.s64 0) (i.s64 1)
    else xorshift128plusLiteral (i.s64 0) (i.s64 1)
  (i.put [.u64 (i.s64 1), .u64 n1], image (vadd (i.s64 0) (i.s64 1)))

/-- The step of XOROSHIRO128SS (41_xorshift_xoshiro.md R173). -/
def stepXoroshiro128ss : StepFn := fun i =>
  let r := xoroshiro128 (i.s64 0) (i.s64 1)
  (i.put [.u64 r.1, .u64 r.2], image (starstar (i.s64 0)))

/-- The step of XOSHIRO128SS: shift 9, rotate 11 (41_xorshift_xoshiro.md R175). -/
def stepXoshiro128ss : StepFn := fun i =>
  let r := xoshiro4 9 11 (by decide) (i.s32 0) (i.s32 1) (i.s32 2) (i.s32 3)
  (i.put [.u32 r.1, .u32 r.2.1, .u32 r.2.2.1, .u32 r.2.2.2], image (starstar (i.s32 1)))

/-- The step of XOSHIRO256SS: shift 17, rotate 45 (41_xorshift_xoshiro.md R176). -/
def stepXoshiro256ss : StepFn := fun i =>
  let r := xoshiro4 17 45 (by decide) (i.s64 0) (i.s64 1) (i.s64 2) (i.s64 3)
  (i.put [.u64 r.1, .u64 r.2.1, .u64 r.2.2.1, .u64 r.2.2.2], image (starstar (i.s64 1)))

/-- The step of XOSHIRO512SS (41_xorshift_xoshiro.md R177). -/
def stepXoshiro512ss : StepFn := fun i =>
  (i.put ((xoshiro8 ((List.range 8).map i.s64)).map .u64), image (starstar (i.s64 1)))

/-! ## The meanings -/

/-- GEN.XORSHIFT32 (41_xorshift_xoshiro.md R170). -/
def execGenXorshift32 (n : Lanes) (s : State) : Result :=
  .next (s.genWith (.genXorshift32 n) (cfgOf .xorshift32 n) stepXorshift32)

/-- GEN.XORSHIFT128 (41_xorshift_xoshiro.md R171). -/
def execGenXorshift128 (n : Lanes) (s : State) : Result :=
  .next (s.genWith (.genXorshift128 n) (cfgOf .xorshift128 n) stepXorshift128)

/-- GEN.XORSHIFT128PLUS (41_xorshift_xoshiro.md R172). -/
def execGenXorshift128plus (n : Lanes) (s : State) : Result :=
  .next (s.genWith (.genXorshift128plus n) (cfgOf .xorshift128plus n) (stepXorshift128plus s.par))

/-- GEN.XOROSHIRO128SS (41_xorshift_xoshiro.md R173). -/
def execGenXoroshiro128ss (n : Lanes) (s : State) : Result :=
  .next (s.genWith (.genXoroshiro128ss n) (cfgOf .xoroshiro128ss n) stepXoroshiro128ss)

/-- GEN.XOSHIRO128SS (41_xorshift_xoshiro.md R175). -/
def execGenXoshiro128ss (n : Lanes) (s : State) : Result :=
  .next (s.genWith (.genXoshiro128ss n) (cfgOf .xoshiro128ss n) stepXoshiro128ss)

/-- GEN.XOSHIRO256SS (41_xorshift_xoshiro.md R176). -/
def execGenXoshiro256ss (n : Lanes) (s : State) : Result :=
  .next (s.genWith (.genXoshiro256ss n) (cfgOf .xoshiro256ss n) stepXoshiro256ss)

/-- GEN.XOSHIRO512SS (41_xorshift_xoshiro.md R177). -/
def execGenXoshiro512ss (n : Lanes) (s : State) : Result :=
  .next (s.genWith (.genXoshiro512ss n) (cfgOf .xoshiro512ss n) stepXoshiro512ss)

end Sys2Proof.Machine
end

