-- ==== Sys2Proof/Machine/Fill.lean ====
section
/-! DEFINITION. FILL, one meaning per family, over the family's step (46_byte_adapter.md R350 to R353). -/

namespace Sys2Proof.Machine

/-- FILL.XORSHIFT32 (46_byte_adapter.md R350). -/
def execFillXorshift32 (n : Lanes) (s : State) : Result :=
  .next (s.fillWith (.fillXorshift32 n) (cfgOf .xorshift32 n) stepXorshift32)

/-- FILL.XORSHIFT128 (46_byte_adapter.md R350). -/
def execFillXorshift128 (n : Lanes) (s : State) : Result :=
  .next (s.fillWith (.fillXorshift128 n) (cfgOf .xorshift128 n) stepXorshift128)

/-- FILL.XORSHIFT128PLUS (46_byte_adapter.md R350). -/
def execFillXorshift128plus (n : Lanes) (s : State) : Result :=
  .next (s.fillWith (.fillXorshift128plus n) (cfgOf .xorshift128plus n) (stepXorshift128plus s.par))

/-- FILL.XOROSHIRO128SS (46_byte_adapter.md R350). -/
def execFillXoroshiro128ss (n : Lanes) (s : State) : Result :=
  .next (s.fillWith (.fillXoroshiro128ss n) (cfgOf .xoroshiro128ss n) stepXoroshiro128ss)

/-- FILL.XOSHIRO128SS (46_byte_adapter.md R350). -/
def execFillXoshiro128ss (n : Lanes) (s : State) : Result :=
  .next (s.fillWith (.fillXoshiro128ss n) (cfgOf .xoshiro128ss n) stepXoshiro128ss)

/-- FILL.XOSHIRO256SS (46_byte_adapter.md R350). -/
def execFillXoshiro256ss (n : Lanes) (s : State) : Result :=
  .next (s.fillWith (.fillXoshiro256ss n) (cfgOf .xoshiro256ss n) stepXoshiro256ss)

/-- FILL.XOSHIRO512SS (46_byte_adapter.md R350). -/
def execFillXoshiro512ss (n : Lanes) (s : State) : Result :=
  .next (s.fillWith (.fillXoshiro512ss n) (cfgOf .xoshiro512ss n) stepXoshiro512ss)

/-- FILL.PCG32 (46_byte_adapter.md R350). -/
def execFillPcg32 (n : Lanes) (s : State) : Result :=
  .next (s.fillWith (.fillPcg32 n) (cfgOf .pcg32 n) stepPcg32)

/-- FILL.PCG32_XSH (46_byte_adapter.md R350). -/
def execFillPcg32Xsh (n : Lanes) (s : State) : Result :=
  .next (s.fillWith (.fillPcg32Xsh n) (cfgOf .pcg32Xsh n) (stepPcg32Xsh s.par))

/-- FILL.PCG32_XSL (46_byte_adapter.md R350). -/
def execFillPcg32Xsl (n : Lanes) (s : State) : Result :=
  .next (s.fillWith (.fillPcg32Xsl n) (cfgOf .pcg32Xsl n) (stepPcg32Xsl s.par))

/-- FILL.LCG32 (46_byte_adapter.md R350). -/
def execFillLcg32 (n : Lanes) (s : State) : Result :=
  .next (s.fillWith (.fillLcg32 n) (cfgOf .lcg32 n) (stepLcg32 s.par))

/-- FILL.LCG16 (46_byte_adapter.md R350). -/
def execFillLcg16 (n : Lanes) (s : State) : Result :=
  .next (s.fillWith (.fillLcg16 n) (cfgOf .lcg16 n) (stepLcg16 s.par))

/-- FILL.JSF32 (46_byte_adapter.md R350). -/
def execFillJsf32 (n : Lanes) (s : State) : Result :=
  .next (s.fillWith (.fillJsf32 n) (cfgOf .jsf32 n) stepJsf32)

/-- FILL.JSF64 (46_byte_adapter.md R350). -/
def execFillJsf64 (n : Lanes) (s : State) : Result :=
  .next (s.fillWith (.fillJsf64 n) (cfgOf .jsf64 n) stepJsf64)

/-- FILL.LFSR113 (46_byte_adapter.md R350). -/
def execFillLfsr113 (n : Lanes) (s : State) : Result :=
  .next (s.fillWith (.fillLfsr113 n) (cfgOf .lfsr113 n) (stepLfsr113 s.par))

/-- FILL.LFSR258 (46_byte_adapter.md R350). -/
def execFillLfsr258 (n : Lanes) (s : State) : Result :=
  .next (s.fillWith (.fillLfsr258 n) (cfgOf .lfsr258 n) (stepLfsr258 s.par))

/-- FILL.MWC (46_byte_adapter.md R350). -/
def execFillMwc (n : Lanes) (s : State) : Result :=
  .next (s.fillWith (.fillMwc n) (cfgOf .mwc n) (stepMwc s.par))

/-- FILL.SFC64 (46_byte_adapter.md R350). -/
def execFillSfc64 (n : Lanes) (s : State) : Result :=
  .next (s.fillWith (.fillSfc64 n) (cfgOf .sfc64 n) stepSfc64)

/-- FILL.SFC32 (46_byte_adapter.md R350). -/
def execFillSfc32 (n : Lanes) (s : State) : Result :=
  .next (s.fillWith (.fillSfc32 n) (cfgOf .sfc32 n) stepSfc32)

/-- FILL.SFC16 (46_byte_adapter.md R350). -/
def execFillSfc16 (n : Lanes) (s : State) : Result :=
  .next (s.fillWith (.fillSfc16 n) (cfgOf .sfc16 n) stepSfc16)

/-- FILL.XSM32 (46_byte_adapter.md R350). -/
def execFillXsm32 (n : Lanes) (s : State) : Result :=
  .next (s.fillWith (.fillXsm32 n) (cfgOf .xsm32 n) (stepXsm32 s.par))

/-- FILL.XSM64 (46_byte_adapter.md R350). -/
def execFillXsm64 (n : Lanes) (s : State) : Result :=
  .next (s.fillWith (.fillXsm64 n) (cfgOf .xsm64 n) (stepXsm64 s.par))

/-- FILL.CHACHA4 (46_byte_adapter.md R350). -/
def execFillChacha4 (s : State) : Result :=
  .next (s.fillWith .fillChacha4 (cfgOf .chacha4 .x2) (stepChacha4 s.par))

/-- FILL.CHACHA4F (46_byte_adapter.md R350). -/
def execFillChacha4f (s : State) : Result :=
  .next (s.fillWith .fillChacha4f (cfgOf .chacha4f .x2) (stepChacha4f s.par))

/-- FILL.ARS5 (46_byte_adapter.md R350). -/
def execFillArs5 (s : State) : Result :=
  .next (s.fillWith .fillArs5 (cfgOf .ars5 .x2) (stepArs5 s.par))

/-- FILL.ARS7 (46_byte_adapter.md R350). -/
def execFillArs7 (s : State) : Result :=
  .next (s.fillWith .fillArs7 (cfgOf .ars7 .x2) (stepArs7 s.par))

/-- FILL.AESRAND (46_byte_adapter.md R350). -/
def execFillAesrand (s : State) : Result :=
  .next (s.fillWith .fillAesrand (cfgOf .aesrand .x2) (stepAesrand s.par))

/-- FILL.SSELCG (46_byte_adapter.md R350). -/
def execFillSselcg (s : State) : Result :=
  .next (s.fillWith .fillSselcg (cfgOf .sselcg .x2) (stepSselcg s.par))

end Sys2Proof.Machine
end

