-- ==== Sys2Proof/Machine/Seeding.lean ====
section
/-! DEFINITION. How each family's instance is made from seed bytes and tested by the validator (45_seeding.md,
20_memory.md R64), the per-word re-sampling of the LFSR families, and the jump of SEED_BLOCKS. -/

namespace Sys2Proof.Machine

/-! ## Loading a seed image (20_memory.md R64) -/

/-- K words of N 16-bit lanes. -/
def load16 (K N : Nat) (b : List Byte) : List LaneVec := (seedWords 16 N K b).map .u16

/-- K words of N 32-bit lanes. -/
def load32 (K N : Nat) (b : List Byte) : List LaneVec := (seedWords 32 N K b).map .u32

/-- K words of N 64-bit lanes. -/
def load64 (K N : Nat) (b : List Byte) : List LaneVec := (seedWords 64 N K b).map .u64

/-- K words of one 128-bit lane. -/
def load128 (K : Nat) (b : List Byte) : List LaneVec := (seedWords 128 1 K b).map .u128

/-- A family without a test: every state is accepted (45_seeding.md R304). -/
def acceptAny (_ : List LaneVec) : Bool := true

/-- `inc <- inc | 1` on the words (state, inc) (45_seeding.md R317). -/
def oddInc (S : List LaneVec) : List LaneVec :=
  match S with
  | [.u64 st, .u64 inc] => [.u64 st, .u64 (vorc inc 1)]
  | [.u32 st, .u32 inc] => [.u32 st, .u32 (vorc inc 1)]
  | S => S

/-- `d <- select(bad, d + 1, d)` of the JSF families (45_seeding.md R322). -/
def jsfFixup {W : Nat} (bad : List (JsfTuple W)) (a b c d : Vec W) : Vec W :=
  vselect (jsfBadMask bad a b c d) (vaddc d 1) d

/-- The words of a JSF32 seed with the fixup applied (45_seeding.md R322). -/
def loadJsf32 (bad : List (JsfTuple 32)) (N : Nat) (b : List Byte) : List LaneVec :=
  match seedWords 32 N 4 b with
  | [x, y, z, w] => [.u32 x, .u32 y, .u32 z, .u32 (jsfFixup bad x y z w)]
  | ws => ws.map .u32

/-- The words of a JSF64 seed with the fixup applied (45_seeding.md R323). -/
def loadJsf64 (bad : List (JsfTuple 64)) (N : Nat) (b : List Byte) : List LaneVec :=
  match seedWords 64 N 4 b with
  | [x, y, z, w] => [.u64 x, .u64 y, .u64 z, .u64 (jsfFixup bad x y z w)]
  | ws => ws.map .u64

/-- The words of a ChaCha seed: the constants, the key from the bytes, counter and nonce 0 (45_seeding.md R332,
44_chacha_aes_sse.md R260). -/
def loadChacha (b : List Byte) : List LaneVec :=
  (chachaConstants ++ le 32 8 b ++ [0, 0, 0, 0]).map fun w => .u32 [w]

/-- Every lane of every word above its threshold, strictly (45_seeding.md R324, R343). -/
def aboveThresholds {W : Nat} (tab : List (LfsrRow W)) (ws : List (Vec W)) : Bool :=
  (List.zipWith (fun r w => !atOrBelow (lfsrThreshold r) w) tab ws).all id

/-! ## The seeding procedures, one per family: SB, the load with its fixups, the test (20_memory.md R64) -/

/-- The zero-avoiding families of 32-bit words (45_seeding.md R303): SB = 4·K·N. -/
def procZero32 (K : Nat) (n : Lanes) : SeedProc := ⟨4 * K * n.count, load32 K n.count, noLaneDegenerate⟩

/-- The zero-avoiding families of 64-bit words (45_seeding.md R303): SB = 8·K·N. -/
def procZero64 (K : Nat) (n : Lanes) : SeedProc := ⟨8 * K * n.count, load64 K n.count, noLaneDegenerate⟩

/-- PCG32, PCG32_XSH, PCG32_XSL and LCG32 (45_seeding.md R317 to R320): SB = 16N. -/
def procInc64 (n : Lanes) : SeedProc := ⟨16 * n.count, fun b => oddInc (load64 2 n.count b), acceptAny⟩

/-- LCG16 (45_seeding.md R321): SB = 8N. -/
def procInc32 (n : Lanes) : SeedProc := ⟨8 * n.count, fun b => oddInc (load32 2 n.count b), acceptAny⟩

/-- JSF32 (45_seeding.md R322): SB = 16N. -/
def procJsf32 (p : Params) (n : Lanes) : SeedProc := ⟨16 * n.count, loadJsf32 p.jsf32Bad n.count, acceptAny⟩

/-- JSF64 (45_seeding.md R323): SB = 32N. -/
def procJsf64 (p : Params) (n : Lanes) : SeedProc := ⟨32 * n.count, loadJsf64 p.jsf64Bad n.count, acceptAny⟩

/-- LFSR113 as SEED_FIXED tests it (45_seeding.md R324, R343): SB = 16N. -/
def procLfsr113 (p : Params) (n : Lanes) : SeedProc :=
  ⟨16 * n.count, load32 4 n.count, fun S => aboveThresholds p.lfsr113Tab.toList (S.map LaneVec.as32)⟩

/-- LFSR258 as SEED_FIXED tests it (45_seeding.md R325, R343): SB = 40N. -/
def procLfsr258 (p : Params) (n : Lanes) : SeedProc :=
  ⟨40 * n.count, load64 5 n.count, fun S => aboveThresholds p.lfsr258Tab.toList (S.map LaneVec.as64)⟩

/-- MWC: zero-avoiding only if MWC_ZERO_AVOID (45_seeding.md R326): SB = 8N. -/
def procMwc (p : Params) (n : Lanes) : SeedProc :=
  ⟨8 * n.count, load64 1 n.count, fun S => !p.mwcZeroAvoid || noLaneDegenerate S⟩

/-- SFC64 (45_seeding.md R327): SB = 32N. -/
def procSfc64 (n : Lanes) : SeedProc := ⟨32 * n.count, load64 4 n.count, acceptAny⟩

/-- SFC32 (45_seeding.md R328): SB = 16N. -/
def procSfc32 (n : Lanes) : SeedProc := ⟨16 * n.count, load32 4 n.count, acceptAny⟩

/-- SFC16 (45_seeding.md R329): SB = 8N. -/
def procSfc16 (n : Lanes) : SeedProc := ⟨8 * n.count, load16 4 n.count, acceptAny⟩

/-- XSM32 (45_seeding.md R330): SB = 4·XSM_K·N. -/
def procXsm32 (p : Params) (n : Lanes) : SeedProc := ⟨4 * p.xsmK * n.count, load32 p.xsmK n.count, acceptAny⟩

/-- XSM64 (45_seeding.md R331): SB = 8·XSM_K·N. -/
def procXsm64 (p : Params) (n : Lanes) : SeedProc := ⟨8 * p.xsmK * n.count, load64 p.xsmK n.count, acceptAny⟩

/-- CHACHA4 and CHACHA4F (45_seeding.md R332, R333): SB = 32. -/
def procChacha : SeedProc := ⟨32, loadChacha, acceptAny⟩

/-- ARS5 and ARS7 (45_seeding.md R334, R335): SB = 32, ctr then key. -/
def procArs : SeedProc := ⟨32, load128 2, acceptAny⟩

/-- AESRAND (45_seeding.md R336): SB = 16. -/
def procAesrand : SeedProc := ⟨16, load128 1, acceptAny⟩

/-- SSELCG (45_seeding.md R337): SB = 16. -/
def procSselcg : SeedProc := ⟨16, load32 1 4, acceptAny⟩

/-! ## SEED_RNG of the LFSR families: one state draw, then word by word (45_seeding.md R324, R325) -/

/-- How the re-sampling of one word, or of the words, ends: kept, with the number of requests the source still answers; a
draw failed; or never (45_seeding.md R324, R346; log 5). -/
inductive WordEnd (α : Type) where
  | kept (w : α) (left : Nat) (s : State)
  | failed (code : BitVec 32) (s : State)
  | never (s : State)

/-- The loop of one word: draw all N lanes of it, and draw them again while a lane is at or below the threshold, with a source
that answers `fuel` requests (45_seeding.md R324). -/
def redrawWord {W : Nat} (N : Nat) (T : BitVec W) : (fuel : Nat) → State → WordEnd (Vec W)
  | 0, s => .never s
  | fuel + 1, s =>
    match s.entDraw (N * (W / 8)) with
    | (.fail c, s') => .failed c s'
    | (.ok b, s') => if atOrBelow T (le W N b) then redrawWord N T fuel s' else .kept (le W N b) fuel s'

/-- `while any(S[i] <= T_i)`: a word above its threshold in every lane is kept (45_seeding.md R324). -/
def resampleWord {W : Nat} (N : Nat) (T : BitVec W) (fuel : Nat) (v : Vec W) (s : State) : WordEnd (Vec W) :=
  if atOrBelow T v then redrawWord N T fuel s else .kept v fuel s

/-- `for i = 0 …`: word after word, the words already accepted kept (45_seeding.md R324). -/
def resampleWords {W : Nat} (N : Nat) : (fuel : Nat) → List (BitVec W × Vec W) → State → WordEnd (List (Vec W))
  | fuel, [], s => .kept [] fuel s
  | fuel, (T, v) :: rest, s =>
    match resampleWord N T fuel v s with
    | .failed c s' => .failed c s'
    | .never s' => .never s'
    | .kept v' left s' =>
      match resampleWords N left rest s' with
      | .failed c s'' => .failed c s''
      | .never s'' => .never s''
      | .kept vs left' s'' => .kept (v' :: vs) left' s''

/-- The words' re-sampling as the end of a seeding. -/
def WordEnd.toSeed {W : Nat} (mk : Vec W → LaneVec) : WordEnd (List (Vec W)) → SeedEnd
  | .kept ws _ s => .done (ws.map mk) s
  | .failed c s => .failed c s
  | .never s => .never s

/-- One state draw, then the loop over the words from word 0, with a source that answers `fuel` requests
(45_seeding.md R324). -/
def lfsrSeed {W : Nat} (mk : Vec W → LaneVec) (tab : List (LfsrRow W)) (N : Nat) (fuel : Nat) (s : State) : SeedEnd :=
  match fuel with
  | 0 => .never s
  | fuel + 1 =>
    match s.entDraw (tab.length * (N * (W / 8))) with
    | (.fail c, s') => .failed c s'
    | (.ok b, s') => (resampleWords N fuel ((tab.map lfsrThreshold).zip (seedWords W N tab.length b)) s').toSeed mk

/-- SEED_RNG of an LFSR family (45_seeding.md R300, R324). -/
def State.seedRngLfsrWith {W : Nat} (s : State) (i : Instr) (c : Cfg) (mk : Vec W → LaneVec) (tab : List (LfsrRow W))
    (N : Nat) : State :=
  s.command i fun s => (lfsrSeed mk tab N s.answered s.dropInstance).finish i c id

/-! ## The jump of SEED_BLOCKS -/

/-- One bit of the walk: add the state where the bit is set, then step (45_seeding.md R339). -/
def jumpBit (step : List (Vec 64) → List (Vec 64)) (P : BitVec 64) (p : List (Vec 64) × List (Vec 64)) (b : Nat) :
    List (Vec 64) × List (Vec 64) :=
  (if P.getLsbD b then List.zipWith vxor p.1 p.2 else p.1, step p.2)

/-- One word of the polynomial, bit 0 first (45_seeding.md R339). -/
def jumpWord (step : List (Vec 64) → List (Vec 64)) (p : List (Vec 64) × List (Vec 64)) (P : BitVec 64) :
    List (Vec 64) × List (Vec 64) :=
  (List.range 64).foldl (jumpBit step P) p

/-- `JUMP(s; P; step)`, word 0 of P first (45_seeding.md R339). -/
def jump (poly : List (BitVec 64)) (step : List (Vec 64) → List (Vec 64)) (s : List (Vec 64)) : List (Vec 64) :=
  (poly.foldl (jumpWord step) (s.map (vsplat 0), s)).1

/-- `s, f s, f (f s), …`: n of them. -/
def orbit {α : Type} (f : α → α) : (n : Nat) → α → List α
  | 0, _ => []
  | n + 1, s => s :: orbit f n (f s)

/-- The vectors whose lane j is the scalar state jumped j times (45_seeding.md R340). -/
def spread (jmp : List (Vec 64) → List (Vec 64)) (N : Nat) (s : List (Vec 64)) : List (Vec 64) :=
  (List.range s.length).map fun k => (orbit jmp N s).flatMap fun lane => lane.getD k []

/-- The state part of the step of XOROSHIRO128SS, at any lane count (41_xorshift_xoshiro.md R173). -/
def xoroshiro128Next (s : List (Vec 64)) : List (Vec 64) :=
  match s with
  | [s0, s1] => [(xoroshiro128 s0 s1).1, (xoroshiro128 s0 s1).2]
  | s => s

/-- The state part of the step of XOSHIRO256SS, at any lane count (41_xorshift_xoshiro.md R176). -/
def xoshiro256Next (s : List (Vec 64)) : List (Vec 64) :=
  match s with
  | [s0, s1, s2, s3] =>
    let r := xoshiro4 17 45 (by decide) s0 s1 s2 s3
    [r.1, r.2.1, r.2.2.1, r.2.2.2]
  | s => s

/-- The scalar seed of SEED_BLOCKS: K words of one lane, drawn again while all are zero (45_seeding.md R340). -/
def procScalar (K : Nat) : SeedProc := ⟨8 * K, load64 K 1, noLaneDegenerate⟩

/-- SEED_BLOCKS on a family that has it (45_seeding.md R340, R341). -/
def State.seedBlocksWith (s : State) (i : Instr) (c : Cfg) (K N : Nat) (poly : List (BitVec 64))
    (step : List (Vec 64) → List (Vec 64)) : State :=
  s.command i fun s =>
    (seedLoop (procScalar K) s.answered s.dropInstance).finish i c fun S =>
      (spread (jump poly step) N (S.map LaneVec.as64)).map .u64

end Sys2Proof.Machine
end

