-- ==== Sys2Proof/Machine/SeedBlocks.lean ====
section
/-! DEFINITION. SEED_BLOCKS, one meaning per family: block-jump seeding of XOROSHIRO128SS and XOSHIRO256SS, E_UNSUPPORTED
for every other family (45_seeding.md R340 to R342). -/

namespace Sys2Proof.Machine

/-- SEED_BLOCKS.XORSHIFT32 (45_seeding.md R342). -/
def execSeedBlocksXorshift32 (n : Lanes) (s : State) : Result :=
  .next (s.seedBlocksUnsupported (.seedBlocksXorshift32 n))

/-- SEED_BLOCKS.XORSHIFT128 (45_seeding.md R342). -/
def execSeedBlocksXorshift128 (n : Lanes) (s : State) : Result :=
  .next (s.seedBlocksUnsupported (.seedBlocksXorshift128 n))

/-- SEED_BLOCKS.XORSHIFT128PLUS (45_seeding.md R342). -/
def execSeedBlocksXorshift128plus (n : Lanes) (s : State) : Result :=
  .next (s.seedBlocksUnsupported (.seedBlocksXorshift128plus n))

/-- SEED_BLOCKS.XOROSHIRO128SS (45_seeding.md R340). -/
def execSeedBlocksXoroshiro128ss (n : Lanes) (s : State) : Result :=
  .next (s.seedBlocksWith (.seedBlocksXoroshiro128ss n) (cfgOf .xoroshiro128ss n) 2 n.count s.par.xoroshiroJump.toList xoroshiro128Next)

/-- SEED_BLOCKS.XOSHIRO128SS (45_seeding.md R342). -/
def execSeedBlocksXoshiro128ss (n : Lanes) (s : State) : Result :=
  .next (s.seedBlocksUnsupported (.seedBlocksXoshiro128ss n))

/-- SEED_BLOCKS.XOSHIRO256SS (45_seeding.md R341). -/
def execSeedBlocksXoshiro256ss (n : Lanes) (s : State) : Result :=
  .next (s.seedBlocksWith (.seedBlocksXoshiro256ss n) (cfgOf .xoshiro256ss n) 4 n.count s.par.xoshiro256Jump.toList xoshiro256Next)

/-- SEED_BLOCKS.XOSHIRO512SS (45_seeding.md R342). -/
def execSeedBlocksXoshiro512ss (n : Lanes) (s : State) : Result :=
  .next (s.seedBlocksUnsupported (.seedBlocksXoshiro512ss n))

/-- SEED_BLOCKS.PCG32 (45_seeding.md R342). -/
def execSeedBlocksPcg32 (n : Lanes) (s : State) : Result :=
  .next (s.seedBlocksUnsupported (.seedBlocksPcg32 n))

/-- SEED_BLOCKS.PCG32_XSH (45_seeding.md R342). -/
def execSeedBlocksPcg32Xsh (n : Lanes) (s : State) : Result :=
  .next (s.seedBlocksUnsupported (.seedBlocksPcg32Xsh n))

/-- SEED_BLOCKS.PCG32_XSL (45_seeding.md R342). -/
def execSeedBlocksPcg32Xsl (n : Lanes) (s : State) : Result :=
  .next (s.seedBlocksUnsupported (.seedBlocksPcg32Xsl n))

/-- SEED_BLOCKS.LCG32 (45_seeding.md R342). -/
def execSeedBlocksLcg32 (n : Lanes) (s : State) : Result :=
  .next (s.seedBlocksUnsupported (.seedBlocksLcg32 n))

/-- SEED_BLOCKS.LCG16 (45_seeding.md R342). -/
def execSeedBlocksLcg16 (n : Lanes) (s : State) : Result :=
  .next (s.seedBlocksUnsupported (.seedBlocksLcg16 n))

/-- SEED_BLOCKS.JSF32 (45_seeding.md R342). -/
def execSeedBlocksJsf32 (n : Lanes) (s : State) : Result :=
  .next (s.seedBlocksUnsupported (.seedBlocksJsf32 n))

/-- SEED_BLOCKS.JSF64 (45_seeding.md R342). -/
def execSeedBlocksJsf64 (n : Lanes) (s : State) : Result :=
  .next (s.seedBlocksUnsupported (.seedBlocksJsf64 n))

/-- SEED_BLOCKS.LFSR113 (45_seeding.md R342). -/
def execSeedBlocksLfsr113 (n : Lanes) (s : State) : Result :=
  .next (s.seedBlocksUnsupported (.seedBlocksLfsr113 n))

/-- SEED_BLOCKS.LFSR258 (45_seeding.md R342). -/
def execSeedBlocksLfsr258 (n : Lanes) (s : State) : Result :=
  .next (s.seedBlocksUnsupported (.seedBlocksLfsr258 n))

/-- SEED_BLOCKS.MWC (45_seeding.md R342). -/
def execSeedBlocksMwc (n : Lanes) (s : State) : Result :=
  .next (s.seedBlocksUnsupported (.seedBlocksMwc n))

/-- SEED_BLOCKS.SFC64 (45_seeding.md R342). -/
def execSeedBlocksSfc64 (n : Lanes) (s : State) : Result :=
  .next (s.seedBlocksUnsupported (.seedBlocksSfc64 n))

/-- SEED_BLOCKS.SFC32 (45_seeding.md R342). -/
def execSeedBlocksSfc32 (n : Lanes) (s : State) : Result :=
  .next (s.seedBlocksUnsupported (.seedBlocksSfc32 n))

/-- SEED_BLOCKS.SFC16 (45_seeding.md R342). -/
def execSeedBlocksSfc16 (n : Lanes) (s : State) : Result :=
  .next (s.seedBlocksUnsupported (.seedBlocksSfc16 n))

/-- SEED_BLOCKS.XSM32 (45_seeding.md R342). -/
def execSeedBlocksXsm32 (n : Lanes) (s : State) : Result :=
  .next (s.seedBlocksUnsupported (.seedBlocksXsm32 n))

/-- SEED_BLOCKS.XSM64 (45_seeding.md R342). -/
def execSeedBlocksXsm64 (n : Lanes) (s : State) : Result :=
  .next (s.seedBlocksUnsupported (.seedBlocksXsm64 n))

/-- SEED_BLOCKS.CHACHA4 (45_seeding.md R342). -/
def execSeedBlocksChacha4 (s : State) : Result :=
  .next (s.seedBlocksUnsupported .seedBlocksChacha4)

/-- SEED_BLOCKS.CHACHA4F (45_seeding.md R342). -/
def execSeedBlocksChacha4f (s : State) : Result :=
  .next (s.seedBlocksUnsupported .seedBlocksChacha4f)

/-- SEED_BLOCKS.ARS5 (45_seeding.md R342). -/
def execSeedBlocksArs5 (s : State) : Result :=
  .next (s.seedBlocksUnsupported .seedBlocksArs5)

/-- SEED_BLOCKS.ARS7 (45_seeding.md R342). -/
def execSeedBlocksArs7 (s : State) : Result :=
  .next (s.seedBlocksUnsupported .seedBlocksArs7)

/-- SEED_BLOCKS.AESRAND (45_seeding.md R342). -/
def execSeedBlocksAesrand (s : State) : Result :=
  .next (s.seedBlocksUnsupported .seedBlocksAesrand)

/-- SEED_BLOCKS.SSELCG (45_seeding.md R342). -/
def execSeedBlocksSselcg (s : State) : Result :=
  .next (s.seedBlocksUnsupported .seedBlocksSselcg)

end Sys2Proof.Machine
end

