-- ==== Sys2Proof/Machine/SeedFixed.lean ====
section
/-! DEFINITION. SEED_FIXED, one meaning per family (45_seeding.md R343, R344). -/

namespace Sys2Proof.Machine

/-- SEED_FIXED.XORSHIFT32 (45_seeding.md R343, R310). -/
def execSeedFixedXorshift32 (n : Lanes) (s : State) : Result :=
  .next (s.seedFixedWith (.seedFixedXorshift32 n) .xorshift32 (cfgOf .xorshift32 n) (procZero32 1 n))

/-- SEED_FIXED.XORSHIFT128 (45_seeding.md R343, R311). -/
def execSeedFixedXorshift128 (n : Lanes) (s : State) : Result :=
  .next (s.seedFixedWith (.seedFixedXorshift128 n) .xorshift128 (cfgOf .xorshift128 n) (procZero32 4 n))

/-- SEED_FIXED.XORSHIFT128PLUS (45_seeding.md R343, R312). -/
def execSeedFixedXorshift128plus (n : Lanes) (s : State) : Result :=
  .next (s.seedFixedWith (.seedFixedXorshift128plus n) .xorshift128plus (cfgOf .xorshift128plus n) (procZero64 2 n))

/-- SEED_FIXED.XOROSHIRO128SS (45_seeding.md R343, R313). -/
def execSeedFixedXoroshiro128ss (n : Lanes) (s : State) : Result :=
  .next (s.seedFixedWith (.seedFixedXoroshiro128ss n) .xoroshiro128ss (cfgOf .xoroshiro128ss n) (procZero64 2 n))

/-- SEED_FIXED.XOSHIRO128SS (45_seeding.md R343, R314). -/
def execSeedFixedXoshiro128ss (n : Lanes) (s : State) : Result :=
  .next (s.seedFixedWith (.seedFixedXoshiro128ss n) .xoshiro128ss (cfgOf .xoshiro128ss n) (procZero32 4 n))

/-- SEED_FIXED.XOSHIRO256SS (45_seeding.md R343, R315). -/
def execSeedFixedXoshiro256ss (n : Lanes) (s : State) : Result :=
  .next (s.seedFixedWith (.seedFixedXoshiro256ss n) .xoshiro256ss (cfgOf .xoshiro256ss n) (procZero64 4 n))

/-- SEED_FIXED.XOSHIRO512SS (45_seeding.md R343, R316). -/
def execSeedFixedXoshiro512ss (n : Lanes) (s : State) : Result :=
  .next (s.seedFixedWith (.seedFixedXoshiro512ss n) .xoshiro512ss (cfgOf .xoshiro512ss n) (procZero64 8 n))

/-- SEED_FIXED.PCG32 (45_seeding.md R343, R317). -/
def execSeedFixedPcg32 (n : Lanes) (s : State) : Result :=
  .next (s.seedFixedWith (.seedFixedPcg32 n) .pcg32 (cfgOf .pcg32 n) (procInc64 n))

/-- SEED_FIXED.PCG32_XSH (45_seeding.md R343, R318). -/
def execSeedFixedPcg32Xsh (n : Lanes) (s : State) : Result :=
  .next (s.seedFixedWith (.seedFixedPcg32Xsh n) .pcg32Xsh (cfgOf .pcg32Xsh n) (procInc64 n))

/-- SEED_FIXED.PCG32_XSL (45_seeding.md R343, R319). -/
def execSeedFixedPcg32Xsl (n : Lanes) (s : State) : Result :=
  .next (s.seedFixedWith (.seedFixedPcg32Xsl n) .pcg32Xsl (cfgOf .pcg32Xsl n) (procInc64 n))

/-- SEED_FIXED.LCG32 (45_seeding.md R343, R320). -/
def execSeedFixedLcg32 (n : Lanes) (s : State) : Result :=
  .next (s.seedFixedWith (.seedFixedLcg32 n) .lcg32 (cfgOf .lcg32 n) (procInc64 n))

/-- SEED_FIXED.LCG16 (45_seeding.md R343, R321). -/
def execSeedFixedLcg16 (n : Lanes) (s : State) : Result :=
  .next (s.seedFixedWith (.seedFixedLcg16 n) .lcg16 (cfgOf .lcg16 n) (procInc32 n))

/-- SEED_FIXED.JSF32 (45_seeding.md R343, R322). -/
def execSeedFixedJsf32 (n : Lanes) (s : State) : Result :=
  .next (s.seedFixedWith (.seedFixedJsf32 n) .jsf32 (cfgOf .jsf32 n) (procJsf32 s.par n))

/-- SEED_FIXED.JSF64 (45_seeding.md R343, R323). -/
def execSeedFixedJsf64 (n : Lanes) (s : State) : Result :=
  .next (s.seedFixedWith (.seedFixedJsf64 n) .jsf64 (cfgOf .jsf64 n) (procJsf64 s.par n))

/-- SEED_FIXED.LFSR113 (45_seeding.md R343, R324). -/
def execSeedFixedLfsr113 (n : Lanes) (s : State) : Result :=
  .next (s.seedFixedWith (.seedFixedLfsr113 n) .lfsr113 (cfgOf .lfsr113 n) (procLfsr113 s.par n))

/-- SEED_FIXED.LFSR258 (45_seeding.md R343, R325). -/
def execSeedFixedLfsr258 (n : Lanes) (s : State) : Result :=
  .next (s.seedFixedWith (.seedFixedLfsr258 n) .lfsr258 (cfgOf .lfsr258 n) (procLfsr258 s.par n))

/-- SEED_FIXED.MWC (45_seeding.md R343, R326). -/
def execSeedFixedMwc (n : Lanes) (s : State) : Result :=
  .next (s.seedFixedWith (.seedFixedMwc n) .mwc (cfgOf .mwc n) (procMwc s.par n))

/-- SEED_FIXED.SFC64 (45_seeding.md R343, R327). -/
def execSeedFixedSfc64 (n : Lanes) (s : State) : Result :=
  .next (s.seedFixedWith (.seedFixedSfc64 n) .sfc64 (cfgOf .sfc64 n) (procSfc64 n))

/-- SEED_FIXED.SFC32 (45_seeding.md R343, R328). -/
def execSeedFixedSfc32 (n : Lanes) (s : State) : Result :=
  .next (s.seedFixedWith (.seedFixedSfc32 n) .sfc32 (cfgOf .sfc32 n) (procSfc32 n))

/-- SEED_FIXED.SFC16 (45_seeding.md R343, R329). -/
def execSeedFixedSfc16 (n : Lanes) (s : State) : Result :=
  .next (s.seedFixedWith (.seedFixedSfc16 n) .sfc16 (cfgOf .sfc16 n) (procSfc16 n))

/-- SEED_FIXED.XSM32 (45_seeding.md R343, R330). -/
def execSeedFixedXsm32 (n : Lanes) (s : State) : Result :=
  .next (s.seedFixedWith (.seedFixedXsm32 n) .xsm32 (cfgOf .xsm32 n) (procXsm32 s.par n))

/-- SEED_FIXED.XSM64 (45_seeding.md R343, R331). -/
def execSeedFixedXsm64 (n : Lanes) (s : State) : Result :=
  .next (s.seedFixedWith (.seedFixedXsm64 n) .xsm64 (cfgOf .xsm64 n) (procXsm64 s.par n))

/-- SEED_FIXED.CHACHA4 (45_seeding.md R343, R332). -/
def execSeedFixedChacha4 (s : State) : Result :=
  .next (s.seedFixedWith .seedFixedChacha4 .chacha4 (cfgOf .chacha4 .x2) procChacha)

/-- SEED_FIXED.CHACHA4F (45_seeding.md R343, R333). -/
def execSeedFixedChacha4f (s : State) : Result :=
  .next (s.seedFixedWith .seedFixedChacha4f .chacha4f (cfgOf .chacha4f .x2) procChacha)

/-- SEED_FIXED.ARS5 (45_seeding.md R343, R334). -/
def execSeedFixedArs5 (s : State) : Result :=
  .next (s.seedFixedWith .seedFixedArs5 .ars5 (cfgOf .ars5 .x2) procArs)

/-- SEED_FIXED.ARS7 (45_seeding.md R343, R335). -/
def execSeedFixedArs7 (s : State) : Result :=
  .next (s.seedFixedWith .seedFixedArs7 .ars7 (cfgOf .ars7 .x2) procArs)

/-- SEED_FIXED.AESRAND (45_seeding.md R343, R336). -/
def execSeedFixedAesrand (s : State) : Result :=
  .next (s.seedFixedWith .seedFixedAesrand .aesrand (cfgOf .aesrand .x2) procAesrand)

/-- SEED_FIXED.SSELCG (45_seeding.md R343, R337). -/
def execSeedFixedSselcg (s : State) : Result :=
  .next (s.seedFixedWith .seedFixedSselcg .sselcg (cfgOf .sselcg .x2) procSselcg)

end Sys2Proof.Machine
end

