-- ==== Sys2Proof/Machine/SeedRng.lean ====
section
/-! DEFINITION. SEED_RNG, one meaning per family (45_seeding.md R300 to R337). -/

namespace Sys2Proof.Machine

/-- SEED_RNG.XORSHIFT32 (45_seeding.md R310). -/
def execSeedRngXorshift32 (n : Lanes) (s : State) : Result :=
  .next (s.seedRngWith (.seedRngXorshift32 n) (cfgOf .xorshift32 n) (procZero32 1 n))

/-- SEED_RNG.XORSHIFT128 (45_seeding.md R311). -/
def execSeedRngXorshift128 (n : Lanes) (s : State) : Result :=
  .next (s.seedRngWith (.seedRngXorshift128 n) (cfgOf .xorshift128 n) (procZero32 4 n))

/-- SEED_RNG.XORSHIFT128PLUS (45_seeding.md R312). -/
def execSeedRngXorshift128plus (n : Lanes) (s : State) : Result :=
  .next (s.seedRngWith (.seedRngXorshift128plus n) (cfgOf .xorshift128plus n) (procZero64 2 n))

/-- SEED_RNG.XOROSHIRO128SS (45_seeding.md R313). -/
def execSeedRngXoroshiro128ss (n : Lanes) (s : State) : Result :=
  .next (s.seedRngWith (.seedRngXoroshiro128ss n) (cfgOf .xoroshiro128ss n) (procZero64 2 n))

/-- SEED_RNG.XOSHIRO128SS (45_seeding.md R314). -/
def execSeedRngXoshiro128ss (n : Lanes) (s : State) : Result :=
  .next (s.seedRngWith (.seedRngXoshiro128ss n) (cfgOf .xoshiro128ss n) (procZero32 4 n))

/-- SEED_RNG.XOSHIRO256SS (45_seeding.md R315). -/
def execSeedRngXoshiro256ss (n : Lanes) (s : State) : Result :=
  .next (s.seedRngWith (.seedRngXoshiro256ss n) (cfgOf .xoshiro256ss n) (procZero64 4 n))

/-- SEED_RNG.XOSHIRO512SS (45_seeding.md R316). -/
def execSeedRngXoshiro512ss (n : Lanes) (s : State) : Result :=
  .next (s.seedRngWith (.seedRngXoshiro512ss n) (cfgOf .xoshiro512ss n) (procZero64 8 n))

/-- SEED_RNG.PCG32 (45_seeding.md R317). -/
def execSeedRngPcg32 (n : Lanes) (s : State) : Result :=
  .next (s.seedRngWith (.seedRngPcg32 n) (cfgOf .pcg32 n) (procInc64 n))

/-- SEED_RNG.PCG32_XSH (45_seeding.md R318). -/
def execSeedRngPcg32Xsh (n : Lanes) (s : State) : Result :=
  .next (s.seedRngWith (.seedRngPcg32Xsh n) (cfgOf .pcg32Xsh n) (procInc64 n))

/-- SEED_RNG.PCG32_XSL (45_seeding.md R319). -/
def execSeedRngPcg32Xsl (n : Lanes) (s : State) : Result :=
  .next (s.seedRngWith (.seedRngPcg32Xsl n) (cfgOf .pcg32Xsl n) (procInc64 n))

/-- SEED_RNG.LCG32 (45_seeding.md R320). -/
def execSeedRngLcg32 (n : Lanes) (s : State) : Result :=
  .next (s.seedRngWith (.seedRngLcg32 n) (cfgOf .lcg32 n) (procInc64 n))

/-- SEED_RNG.LCG16 (45_seeding.md R321). -/
def execSeedRngLcg16 (n : Lanes) (s : State) : Result :=
  .next (s.seedRngWith (.seedRngLcg16 n) (cfgOf .lcg16 n) (procInc32 n))

/-- SEED_RNG.JSF32 (45_seeding.md R322). -/
def execSeedRngJsf32 (n : Lanes) (s : State) : Result :=
  .next (s.seedRngWith (.seedRngJsf32 n) (cfgOf .jsf32 n) (procJsf32 s.par n))

/-- SEED_RNG.JSF64 (45_seeding.md R323). -/
def execSeedRngJsf64 (n : Lanes) (s : State) : Result :=
  .next (s.seedRngWith (.seedRngJsf64 n) (cfgOf .jsf64 n) (procJsf64 s.par n))

/-- SEED_RNG.LFSR113 (45_seeding.md R324). -/
def execSeedRngLfsr113 (n : Lanes) (s : State) : Result :=
  .next (s.seedRngLfsrWith (.seedRngLfsr113 n) (cfgOf .lfsr113 n) .u32 s.par.lfsr113Tab.toList n.count)

/-- SEED_RNG.LFSR258 (45_seeding.md R325). -/
def execSeedRngLfsr258 (n : Lanes) (s : State) : Result :=
  .next (s.seedRngLfsrWith (.seedRngLfsr258 n) (cfgOf .lfsr258 n) .u64 s.par.lfsr258Tab.toList n.count)

/-- SEED_RNG.MWC (45_seeding.md R326). -/
def execSeedRngMwc (n : Lanes) (s : State) : Result :=
  .next (s.seedRngWith (.seedRngMwc n) (cfgOf .mwc n) (procMwc s.par n))

/-- SEED_RNG.SFC64 (45_seeding.md R327). -/
def execSeedRngSfc64 (n : Lanes) (s : State) : Result :=
  .next (s.seedRngWith (.seedRngSfc64 n) (cfgOf .sfc64 n) (procSfc64 n))

/-- SEED_RNG.SFC32 (45_seeding.md R328). -/
def execSeedRngSfc32 (n : Lanes) (s : State) : Result :=
  .next (s.seedRngWith (.seedRngSfc32 n) (cfgOf .sfc32 n) (procSfc32 n))

/-- SEED_RNG.SFC16 (45_seeding.md R329). -/
def execSeedRngSfc16 (n : Lanes) (s : State) : Result :=
  .next (s.seedRngWith (.seedRngSfc16 n) (cfgOf .sfc16 n) (procSfc16 n))

/-- SEED_RNG.XSM32 (45_seeding.md R330). -/
def execSeedRngXsm32 (n : Lanes) (s : State) : Result :=
  .next (s.seedRngWith (.seedRngXsm32 n) (cfgOf .xsm32 n) (procXsm32 s.par n))

/-- SEED_RNG.XSM64 (45_seeding.md R331). -/
def execSeedRngXsm64 (n : Lanes) (s : State) : Result :=
  .next (s.seedRngWith (.seedRngXsm64 n) (cfgOf .xsm64 n) (procXsm64 s.par n))

/-- SEED_RNG.CHACHA4 (45_seeding.md R332). -/
def execSeedRngChacha4 (s : State) : Result :=
  .next (s.seedRngWith .seedRngChacha4 (cfgOf .chacha4 .x2) procChacha)

/-- SEED_RNG.CHACHA4F (45_seeding.md R333). -/
def execSeedRngChacha4f (s : State) : Result :=
  .next (s.seedRngWith .seedRngChacha4f (cfgOf .chacha4f .x2) procChacha)

/-- SEED_RNG.ARS5 (45_seeding.md R334). -/
def execSeedRngArs5 (s : State) : Result :=
  .next (s.seedRngWith .seedRngArs5 (cfgOf .ars5 .x2) procArs)

/-- SEED_RNG.ARS7 (45_seeding.md R335). -/
def execSeedRngArs7 (s : State) : Result :=
  .next (s.seedRngWith .seedRngArs7 (cfgOf .ars7 .x2) procArs)

/-- SEED_RNG.AESRAND (45_seeding.md R336). -/
def execSeedRngAesrand (s : State) : Result :=
  .next (s.seedRngWith .seedRngAesrand (cfgOf .aesrand .x2) procAesrand)

/-- SEED_RNG.SSELCG (45_seeding.md R337). -/
def execSeedRngSselcg (s : State) : Result :=
  .next (s.seedRngWith .seedRngSselcg (cfgOf .sselcg .x2) procSselcg)

end Sys2Proof.Machine
end

