-- ==== Sys2Proof/Machine/Dispatch.lean ====
section
/-! DEFINITION. The meaning of every command: one arm per constructor of Instr. -/

namespace Sys2Proof.Machine

def exec (i : Instr) (s : State) : Host.Outcome State Fault Refusal :=
  match i with
  | .nop => Sys2Proof.Machine.execNop s
  | .clrerr => Sys2Proof.Machine.execClrerr s
  | .reset => Sys2Proof.Machine.execReset s
  | .seedRngXorshift32 n => Sys2Proof.Machine.execSeedRngXorshift32 n s
  | .seedRngXorshift128 n => Sys2Proof.Machine.execSeedRngXorshift128 n s
  | .seedRngXorshift128plus n => Sys2Proof.Machine.execSeedRngXorshift128plus n s
  | .seedRngXoroshiro128ss n => Sys2Proof.Machine.execSeedRngXoroshiro128ss n s
  | .seedRngXoshiro128ss n => Sys2Proof.Machine.execSeedRngXoshiro128ss n s
  | .seedRngXoshiro256ss n => Sys2Proof.Machine.execSeedRngXoshiro256ss n s
  | .seedRngXoshiro512ss n => Sys2Proof.Machine.execSeedRngXoshiro512ss n s
  | .seedRngPcg32 n => Sys2Proof.Machine.execSeedRngPcg32 n s
  | .seedRngPcg32Xsh n => Sys2Proof.Machine.execSeedRngPcg32Xsh n s
  | .seedRngPcg32Xsl n => Sys2Proof.Machine.execSeedRngPcg32Xsl n s
  | .seedRngLcg32 n => Sys2Proof.Machine.execSeedRngLcg32 n s
  | .seedRngLcg16 n => Sys2Proof.Machine.execSeedRngLcg16 n s
  | .seedRngJsf32 n => Sys2Proof.Machine.execSeedRngJsf32 n s
  | .seedRngJsf64 n => Sys2Proof.Machine.execSeedRngJsf64 n s
  | .seedRngLfsr113 n => Sys2Proof.Machine.execSeedRngLfsr113 n s
  | .seedRngLfsr258 n => Sys2Proof.Machine.execSeedRngLfsr258 n s
  | .seedRngMwc n => Sys2Proof.Machine.execSeedRngMwc n s
  | .seedRngSfc64 n => Sys2Proof.Machine.execSeedRngSfc64 n s
  | .seedRngSfc32 n => Sys2Proof.Machine.execSeedRngSfc32 n s
  | .seedRngSfc16 n => Sys2Proof.Machine.execSeedRngSfc16 n s
  | .seedRngXsm32 n => Sys2Proof.Machine.execSeedRngXsm32 n s
  | .seedRngXsm64 n => Sys2Proof.Machine.execSeedRngXsm64 n s
  | .seedRngChacha4 => Sys2Proof.Machine.execSeedRngChacha4 s
  | .seedRngChacha4f => Sys2Proof.Machine.execSeedRngChacha4f s
  | .seedRngArs5 => Sys2Proof.Machine.execSeedRngArs5 s
  | .seedRngArs7 => Sys2Proof.Machine.execSeedRngArs7 s
  | .seedRngAesrand => Sys2Proof.Machine.execSeedRngAesrand s
  | .seedRngSselcg => Sys2Proof.Machine.execSeedRngSselcg s
  | .seedBlocksXorshift32 n => Sys2Proof.Machine.execSeedBlocksXorshift32 n s
  | .seedBlocksXorshift128 n => Sys2Proof.Machine.execSeedBlocksXorshift128 n s
  | .seedBlocksXorshift128plus n => Sys2Proof.Machine.execSeedBlocksXorshift128plus n s
  | .seedBlocksXoroshiro128ss n => Sys2Proof.Machine.execSeedBlocksXoroshiro128ss n s
  | .seedBlocksXoshiro128ss n => Sys2Proof.Machine.execSeedBlocksXoshiro128ss n s
  | .seedBlocksXoshiro256ss n => Sys2Proof.Machine.execSeedBlocksXoshiro256ss n s
  | .seedBlocksXoshiro512ss n => Sys2Proof.Machine.execSeedBlocksXoshiro512ss n s
  | .seedBlocksPcg32 n => Sys2Proof.Machine.execSeedBlocksPcg32 n s
  | .seedBlocksPcg32Xsh n => Sys2Proof.Machine.execSeedBlocksPcg32Xsh n s
  | .seedBlocksPcg32Xsl n => Sys2Proof.Machine.execSeedBlocksPcg32Xsl n s
  | .seedBlocksLcg32 n => Sys2Proof.Machine.execSeedBlocksLcg32 n s
  | .seedBlocksLcg16 n => Sys2Proof.Machine.execSeedBlocksLcg16 n s
  | .seedBlocksJsf32 n => Sys2Proof.Machine.execSeedBlocksJsf32 n s
  | .seedBlocksJsf64 n => Sys2Proof.Machine.execSeedBlocksJsf64 n s
  | .seedBlocksLfsr113 n => Sys2Proof.Machine.execSeedBlocksLfsr113 n s
  | .seedBlocksLfsr258 n => Sys2Proof.Machine.execSeedBlocksLfsr258 n s
  | .seedBlocksMwc n => Sys2Proof.Machine.execSeedBlocksMwc n s
  | .seedBlocksSfc64 n => Sys2Proof.Machine.execSeedBlocksSfc64 n s
  | .seedBlocksSfc32 n => Sys2Proof.Machine.execSeedBlocksSfc32 n s
  | .seedBlocksSfc16 n => Sys2Proof.Machine.execSeedBlocksSfc16 n s
  | .seedBlocksXsm32 n => Sys2Proof.Machine.execSeedBlocksXsm32 n s
  | .seedBlocksXsm64 n => Sys2Proof.Machine.execSeedBlocksXsm64 n s
  | .seedBlocksChacha4 => Sys2Proof.Machine.execSeedBlocksChacha4 s
  | .seedBlocksChacha4f => Sys2Proof.Machine.execSeedBlocksChacha4f s
  | .seedBlocksArs5 => Sys2Proof.Machine.execSeedBlocksArs5 s
  | .seedBlocksArs7 => Sys2Proof.Machine.execSeedBlocksArs7 s
  | .seedBlocksAesrand => Sys2Proof.Machine.execSeedBlocksAesrand s
  | .seedBlocksSselcg => Sys2Proof.Machine.execSeedBlocksSselcg s
  | .seedFixedXorshift32 n => Sys2Proof.Machine.execSeedFixedXorshift32 n s
  | .seedFixedXorshift128 n => Sys2Proof.Machine.execSeedFixedXorshift128 n s
  | .seedFixedXorshift128plus n => Sys2Proof.Machine.execSeedFixedXorshift128plus n s
  | .seedFixedXoroshiro128ss n => Sys2Proof.Machine.execSeedFixedXoroshiro128ss n s
  | .seedFixedXoshiro128ss n => Sys2Proof.Machine.execSeedFixedXoshiro128ss n s
  | .seedFixedXoshiro256ss n => Sys2Proof.Machine.execSeedFixedXoshiro256ss n s
  | .seedFixedXoshiro512ss n => Sys2Proof.Machine.execSeedFixedXoshiro512ss n s
  | .seedFixedPcg32 n => Sys2Proof.Machine.execSeedFixedPcg32 n s
  | .seedFixedPcg32Xsh n => Sys2Proof.Machine.execSeedFixedPcg32Xsh n s
  | .seedFixedPcg32Xsl n => Sys2Proof.Machine.execSeedFixedPcg32Xsl n s
  | .seedFixedLcg32 n => Sys2Proof.Machine.execSeedFixedLcg32 n s
  | .seedFixedLcg16 n => Sys2Proof.Machine.execSeedFixedLcg16 n s
  | .seedFixedJsf32 n => Sys2Proof.Machine.execSeedFixedJsf32 n s
  | .seedFixedJsf64 n => Sys2Proof.Machine.execSeedFixedJsf64 n s
  | .seedFixedLfsr113 n => Sys2Proof.Machine.execSeedFixedLfsr113 n s
  | .seedFixedLfsr258 n => Sys2Proof.Machine.execSeedFixedLfsr258 n s
  | .seedFixedMwc n => Sys2Proof.Machine.execSeedFixedMwc n s
  | .seedFixedSfc64 n => Sys2Proof.Machine.execSeedFixedSfc64 n s
  | .seedFixedSfc32 n => Sys2Proof.Machine.execSeedFixedSfc32 n s
  | .seedFixedSfc16 n => Sys2Proof.Machine.execSeedFixedSfc16 n s
  | .seedFixedXsm32 n => Sys2Proof.Machine.execSeedFixedXsm32 n s
  | .seedFixedXsm64 n => Sys2Proof.Machine.execSeedFixedXsm64 n s
  | .seedFixedChacha4 => Sys2Proof.Machine.execSeedFixedChacha4 s
  | .seedFixedChacha4f => Sys2Proof.Machine.execSeedFixedChacha4f s
  | .seedFixedArs5 => Sys2Proof.Machine.execSeedFixedArs5 s
  | .seedFixedArs7 => Sys2Proof.Machine.execSeedFixedArs7 s
  | .seedFixedAesrand => Sys2Proof.Machine.execSeedFixedAesrand s
  | .seedFixedSselcg => Sys2Proof.Machine.execSeedFixedSselcg s
  | .genXorshift32 n => Sys2Proof.Machine.execGenXorshift32 n s
  | .genXorshift128 n => Sys2Proof.Machine.execGenXorshift128 n s
  | .genXorshift128plus n => Sys2Proof.Machine.execGenXorshift128plus n s
  | .genXoroshiro128ss n => Sys2Proof.Machine.execGenXoroshiro128ss n s
  | .genXoshiro128ss n => Sys2Proof.Machine.execGenXoshiro128ss n s
  | .genXoshiro256ss n => Sys2Proof.Machine.execGenXoshiro256ss n s
  | .genXoshiro512ss n => Sys2Proof.Machine.execGenXoshiro512ss n s
  | .genPcg32 n => Sys2Proof.Machine.execGenPcg32 n s
  | .genPcg32Xsh n => Sys2Proof.Machine.execGenPcg32Xsh n s
  | .genPcg32Xsl n => Sys2Proof.Machine.execGenPcg32Xsl n s
  | .genLcg32 n => Sys2Proof.Machine.execGenLcg32 n s
  | .genLcg16 n => Sys2Proof.Machine.execGenLcg16 n s
  | .genJsf32 n => Sys2Proof.Machine.execGenJsf32 n s
  | .genJsf64 n => Sys2Proof.Machine.execGenJsf64 n s
  | .genLfsr113 n => Sys2Proof.Machine.execGenLfsr113 n s
  | .genLfsr258 n => Sys2Proof.Machine.execGenLfsr258 n s
  | .genMwc n => Sys2Proof.Machine.execGenMwc n s
  | .genSfc64 n => Sys2Proof.Machine.execGenSfc64 n s
  | .genSfc32 n => Sys2Proof.Machine.execGenSfc32 n s
  | .genSfc16 n => Sys2Proof.Machine.execGenSfc16 n s
  | .genXsm32 n => Sys2Proof.Machine.execGenXsm32 n s
  | .genXsm64 n => Sys2Proof.Machine.execGenXsm64 n s
  | .genChacha4 => Sys2Proof.Machine.execGenChacha4 s
  | .genChacha4f => Sys2Proof.Machine.execGenChacha4f s
  | .genArs5 => Sys2Proof.Machine.execGenArs5 s
  | .genArs7 => Sys2Proof.Machine.execGenArs7 s
  | .genAesrand => Sys2Proof.Machine.execGenAesrand s
  | .genSselcg => Sys2Proof.Machine.execGenSselcg s
  | .fillXorshift32 n => Sys2Proof.Machine.execFillXorshift32 n s
  | .fillXorshift128 n => Sys2Proof.Machine.execFillXorshift128 n s
  | .fillXorshift128plus n => Sys2Proof.Machine.execFillXorshift128plus n s
  | .fillXoroshiro128ss n => Sys2Proof.Machine.execFillXoroshiro128ss n s
  | .fillXoshiro128ss n => Sys2Proof.Machine.execFillXoshiro128ss n s
  | .fillXoshiro256ss n => Sys2Proof.Machine.execFillXoshiro256ss n s
  | .fillXoshiro512ss n => Sys2Proof.Machine.execFillXoshiro512ss n s
  | .fillPcg32 n => Sys2Proof.Machine.execFillPcg32 n s
  | .fillPcg32Xsh n => Sys2Proof.Machine.execFillPcg32Xsh n s
  | .fillPcg32Xsl n => Sys2Proof.Machine.execFillPcg32Xsl n s
  | .fillLcg32 n => Sys2Proof.Machine.execFillLcg32 n s
  | .fillLcg16 n => Sys2Proof.Machine.execFillLcg16 n s
  | .fillJsf32 n => Sys2Proof.Machine.execFillJsf32 n s
  | .fillJsf64 n => Sys2Proof.Machine.execFillJsf64 n s
  | .fillLfsr113 n => Sys2Proof.Machine.execFillLfsr113 n s
  | .fillLfsr258 n => Sys2Proof.Machine.execFillLfsr258 n s
  | .fillMwc n => Sys2Proof.Machine.execFillMwc n s
  | .fillSfc64 n => Sys2Proof.Machine.execFillSfc64 n s
  | .fillSfc32 n => Sys2Proof.Machine.execFillSfc32 n s
  | .fillSfc16 n => Sys2Proof.Machine.execFillSfc16 n s
  | .fillXsm32 n => Sys2Proof.Machine.execFillXsm32 n s
  | .fillXsm64 n => Sys2Proof.Machine.execFillXsm64 n s
  | .fillChacha4 => Sys2Proof.Machine.execFillChacha4 s
  | .fillChacha4f => Sys2Proof.Machine.execFillChacha4f s
  | .fillArs5 => Sys2Proof.Machine.execFillArs5 s
  | .fillArs7 => Sys2Proof.Machine.execFillArs7 s
  | .fillAesrand => Sys2Proof.Machine.execFillAesrand s
  | .fillSselcg => Sys2Proof.Machine.execFillSselcg s

end Sys2Proof.Machine
end

