-- ==== Sys2Proof/Machine/Issue.lean ====
section
/-! DEFINITION. Command issue and the host's accesses (47_control.md R360, R368; 20_memory.md R71, R74). -/

namespace Sys2Proof.Machine

/-- A host write of `w` to CMD: the command runs whole, or, where the word is ill-formed, E_ILLEGAL is raised, unless an
error is recorded (47_control.md R360; 30_encoding.md R97). The exact words of CLRERR and RESET decode to those two
commands, whose meanings do not ask whether an error is recorded. -/
def issue (w : Word) (s : State) : Result :=
  match decode w with
  | .ok i => exec i s
  | .error _ => if s.err ≠ .none then .next s else .next (s.raise .illegal w 0)

/-- An access is refused unless it is a naturally aligned 32-bit access (20_memory.md R71), and faults outside the register
space (20_memory.md R60, R61; log 10). -/
def access (off bits : Nat) (effect : Result) : Result :=
  if bits ≠ 32 ∨ off % 4 ≠ 0 then .refused (.notAligned32 off bits)
  else if 0x800 ≤ off then .fault (.outsideRegisterSpace off)
  else effect

/-- One action of the host or of the platform (20_memory.md R79). -/
def act (a : HostAction) (s : State) : Result :=
  match a with
  | .write off bits v => access off bits (if off = 0 then issue v s else .next (s.hostWrite off v))
  | .read off bits => access off bits (.next (s.hostRead off))
  | .reset => .next s.hardReset

/-- The engine's next transition: the host's next action, whole, or, where there is none, the engine waits for one
(00_scope.md R3, 20_memory.md R74, 70_reset_and_hazards.md R410; log 6). A seeding command that never completes holds the
host's write for ever: the machine is stuck (45_seeding.md R346; log 5). -/
def advance (s : State) : Result :=
  match s.pend with
  | some _ => .next s
  | none =>
    match s.host with
    | [] => .next s
    | a :: rest => act a { s with host := rest }

/-- The host's next action is a 32-bit write of the word `w` to CMD, and no command holds the host. -/
def State.withCommand (s : State) (w : Word) : State :=
  { s with pend := none, host := .write 0 32 w :: s.host }

end Sys2Proof.Machine
end

