-- ==== Sys2Proof/Machine/Step.lean ====
section
/-! DEFINITION. The step of the machine. -/

namespace Sys2Proof.Machine

/-- One step: the engine's next transition. -/
def step (s : State) : Host.Outcome State Fault Refusal := advance s

/-- `s` with the command of a table row where the step takes its next one: the engine fetches nothing, so the host's next
action is the write of the row's word to CMD (10_state.md R31; log 6). -/
def State.withFetchWord (s : State) (nbits w : Nat) : State :=
  s.withCommand (BitVec.ofNat 32 (w % 2 ^ nbits))

end Sys2Proof.Machine
end

