-- ==== Sys2Proof/Reference.lean ====
section
/-! DEFINITION. The vocabulary of the statements: the rules of the families on ONE lane, written a second time from the
spec, apart from the machine. Where a rule gives the new words in terms of the old ones (43_jsf_lfsr_mwc_sfc_xsm.md R220,
41_xorshift_xoshiro.md R175) that form is used here, and the machine has the assignments in order; rotates are Lean's own
BitVec.rotateLeft and BitVec.rotateRight. No meaning of the machine uses a definition of this file. -/

namespace Sys2Proof.Ref

/-! ## The state words of one lane -/

/-- Two state words of one lane. -/
structure Two (W : Nat) where
  a : BitVec W
  b : BitVec W
deriving DecidableEq, Repr

/-- Four state words of one lane. -/
structure Four (W : Nat) where
  a : BitVec W
  b : BitVec W
  c : BitVec W
  d : BitVec W
deriving DecidableEq, Repr

/-- Five state words of one lane. -/
structure Five (W : Nat) where
  a : BitVec W
  b : BitVec W
  c : BitVec W
  d : BitVec W
  e : BitVec W
deriving DecidableEq, Repr

/-- Eight state words of one lane. -/
structure Eight (W : Nat) where
  a : BitVec W
  b : BitVec W
  c : BitVec W
  d : BitVec W
  e : BitVec W
  f : BitVec W
  g : BitVec W
  h : BitVec W
deriving DecidableEq, Repr

/-! ## 41_xorshift_xoshiro.md -/

/-- XORSHIFT32: the new x, which is the output (41_xorshift_xoshiro.md R170). -/
def xorshift32 (x : BitVec 32) : BitVec 32 :=
  let x1 := x ^^^ (x <<< 13)
  let x2 := x1 ^^^ (x1 >>> 17)
  x2 ^^^ (x2 <<< 5)

/-- XORSHIFT128: the new w, which is the output (41_xorshift_xoshiro.md R171). -/
def xorshift128New (l : Four 32) : BitVec 32 :=
  l.d ^^^ (l.d >>> 19) ^^^ (l.a ^^^ (l.a <<< 11)) ^^^ ((l.a ^^^ (l.a <<< 11)) >>> 8)

/-- XORSHIFT128: the words move down by one (41_xorshift_xoshiro.md R171). -/
def xorshift128 (l : Four 32) : Four 32 := ⟨l.b, l.c, l.d, xorshift128New l⟩

/-- XORSHIFT128PLUS, the source's text read literally (41_xorshift_xoshiro.md R172). -/
def xorshift128plusLiteral (l : Two 64) : Two 64 :=
  ⟨l.b, (l.b ^^^ (l.b <<< 23)) ^^^ l.a ^^^ ((l.b ^^^ (l.b <<< 23)) >>> 18) ^^^ (l.a >>> 5)⟩

/-- XORSHIFT128PLUS as published (41_xorshift_xoshiro.md R172). -/
def xorshift128plusPublished (l : Two 64) : Two 64 :=
  ⟨l.b, (l.a ^^^ (l.a <<< 23)) ^^^ l.b ^^^ ((l.a ^^^ (l.a <<< 23)) >>> 18) ^^^ (l.b >>> 5)⟩

/-- The output scrambler (41_xorshift_xoshiro.md R174). -/
def starstar {W : Nat} (v : BitVec W) : BitVec W := (v * 5).rotateLeft 7 * 9

/-- XOROSHIRO128SS in terms of the old words (41_xorshift_xoshiro.md R173). -/
def xoroshiro128 (l : Two 64) : Two 64 :=
  ⟨l.a.rotateLeft 24 ^^^ (l.b ^^^ l.a) ^^^ ((l.b ^^^ l.a) <<< 16), (l.b ^^^ l.a).rotateLeft 37⟩

/-- The xoshiro update of four words, shift A and rotate B, in terms of the old words (41_xorshift_xoshiro.md R175). -/
def xoshiro4 {W : Nat} (A B : Nat) (l : Four W) : Four W :=
  ⟨l.a ^^^ l.d ^^^ l.b, l.b ^^^ l.c ^^^ l.a, l.c ^^^ l.a ^^^ (l.b <<< A), (l.d ^^^ l.b).rotateLeft B⟩

/-- The xoshiro update of eight words in terms of the old words (41_xorshift_xoshiro.md R177). -/
def xoshiro8 (l : Eight 64) : Eight 64 where
  a := l.a ^^^ l.g
  b := l.b ^^^ l.c ^^^ l.a
  c := l.c ^^^ l.a
  d := l.d ^^^ l.e
  e := l.e ^^^ l.f ^^^ l.b
  f := l.f ^^^ l.b
  g := l.g ^^^ l.h ^^^ l.d ^^^ (l.b <<< 11)
  h := (l.h ^^^ l.d).rotateLeft 21

/-! ## 42_pcg_lcg.md: a is `state`, b is `inc` -/

/-- `state * mul + inc`, and inc is unchanged (42_pcg_lcg.md R200, R204, R205). -/
def lcg {W : Nat} (mul : BitVec W) (l : Two W) : Two W := ⟨l.a * mul + l.b, l.b⟩

/-- PCG_MUL (42_pcg_lcg.md R200). -/
def pcgMul : BitVec 64 := 0x5851F42D4C957F2D

/-- `trunc_32(((old >> 18) ^ old) >> 27)` (42_pcg_lcg.md R201). -/
def pcgXorshift (old : BitVec 64) : BitVec 32 := (((old >>> 18) ^^^ old) >>> 27).setWidth 32

/-- PCG32's output: a rotate right within 32 bits by the top five bits of the old state (42_pcg_lcg.md R201). -/
def pcg32Out (old : BitVec 64) : BitVec 32 := (pcgXorshift old).rotateRight (old >>> 59).toNat

/-- PCG32_XSL's default output (42_pcg_lcg.md R203). -/
def pcgXslOut (old : BitVec 64) : BitVec 32 := ((old >>> 32) ^^^ old).setWidth 32

/-! ## 43_jsf_lfsr_mwc_sfc_xsm.md -/

/-- JSF in terms of the old words (43_jsf_lfsr_mwc_sfc_xsm.md R220, R221). The output is the new d. -/
def jsf {W : Nat} (X Z : Nat) (l : Four W) : Four W where
  a := l.b ^^^ l.c.rotateLeft Z
  b := l.c + l.d
  c := l.d + (l.a - l.b.rotateLeft X)
  d := (l.a - l.b.rotateLeft X) + (l.b ^^^ l.c.rotateLeft Z)

/-- One LFSR word by its table row (43_jsf_lfsr_mwc_sfc_xsm.md R222). -/
def lfsrWord {W : Nat} (r : LfsrRow W) (w : BitVec W) : BitVec W :=
  ((w &&& ~~~(BitVec.ofNat W (2 ^ r.k.val - 1))) <<< r.s3.val) ^^^ (((w <<< r.s1.val) ^^^ w) >>> r.s2.val)

/-- The four words of LFSR113 (43_jsf_lfsr_mwc_sfc_xsm.md R222). -/
def lfsr113 (tab : Vector (LfsrRow 32) 4) (l : Four 32) : Four 32 :=
  ⟨lfsrWord tab[0] l.a, lfsrWord tab[1] l.b, lfsrWord tab[2] l.c, lfsrWord tab[3] l.d⟩

/-- The five words of LFSR258 (43_jsf_lfsr_mwc_sfc_xsm.md R223). -/
def lfsr258 (tab : Vector (LfsrRow 64) 5) (l : Five 64) : Five 64 :=
  ⟨lfsrWord tab[0] l.a, lfsrWord tab[1] l.b, lfsrWord tab[2] l.c, lfsrWord tab[3] l.d, lfsrWord tab[4] l.e⟩

/-- MWC: the stored word, as an integer: low half times the factor, plus the carry (43_jsf_lfsr_mwc_sfc_xsm.md R224). -/
def mwcNat (factor : BitVec 32) (x : BitVec 64) : Nat := x.toNat % 2 ^ 32 * factor.toNat + x.toNat / 2 ^ 32

/-- MWC's output mixing (43_jsf_lfsr_mwc_sfc_xsm.md R224). -/
def mwcMix (y : BitVec 64) : BitVec 64 :=
  let y1 := y ^^^ (y <<< 30)
  let y2 := y1 ^^^ (y1 >>> 35)
  y2 ^^^ (y2 <<< 13)

/-- SFC's output (43_jsf_lfsr_mwc_sfc_xsm.md R225). -/
def sfcOut {W : Nat} (l : Four W) : BitVec W := l.a + l.b + l.d

/-- SFC with (rot, shr, shl) in terms of the old words (43_jsf_lfsr_mwc_sfc_xsm.md R225 to R227). -/
def sfc {W : Nat} (rot sr sl : Nat) (l : Four W) : Four W where
  a := l.b ^^^ (l.b >>> sr)
  b := l.c + (l.c <<< sl)
  c := l.c.rotateLeft rot + sfcOut l
  d := l.d + 1

/-- What R228 (b) and (c) fix of an XSM step on one lane of K words: K words again, words 0 and 1 advanced as one
quantity of 2W bits by an addition of `addLow + 2^W · addHigh`, so that the carry out of word 0 enters word 1
(43_jsf_lfsr_mwc_sfc_xsm.md R228, R229). -/
def XsmStep {W : Nat} (K : Nat) (addLow addHigh : List (BitVec W) → BitVec W)
    (f : List (BitVec W) → List (BitVec W) × BitVec W) : Prop :=
  ∀ ws : List (BitVec W), ws.length = K →
    (f ws).1.length = K ∧
    ((f ws).1.getD 0 0).toNat + 2 ^ W * ((f ws).1.getD 1 0).toNat
      = ((ws.getD 0 0).toNat + 2 ^ W * (ws.getD 1 0).toNat + (addLow ws).toNat + 2 ^ W * (addHigh ws).toNat) % 2 ^ (2 * W)

/-! ## 44_chacha_aes_sse.md -/

/-- The quarter-round on entries ia, ib, ic, id of the working array, operation by operation
(44_chacha_aes_sse.md R261). -/
def quarterRound (r1 r2 r3 r4 : Nat) (ia ib ic id : Nat) (x : List (BitVec 32)) : List (BitVec 32) :=
  let x := x.set ia (x.getD ia 0 + x.getD ib 0)
  let x := x.set id ((x.getD id 0 ^^^ x.getD ia 0).rotateLeft r1)
  let x := x.set ic (x.getD ic 0 + x.getD id 0)
  let x := x.set ib ((x.getD ib 0 ^^^ x.getD ic 0).rotateLeft r2)
  let x := x.set ia (x.getD ia 0 + x.getD ib 0)
  let x := x.set id ((x.getD id 0 ^^^ x.getD ia 0).rotateLeft r3)
  let x := x.set ic (x.getD ic 0 + x.getD id 0)
  x.set ib ((x.getD ib 0 ^^^ x.getD ic 0).rotateLeft r4)

/-- The index pattern of a double-round: the column round, then the diagonal round (44_chacha_aes_sse.md R264). -/
def roundIndices : List (Nat × Nat × Nat × Nat) :=
  [(0, 4, 8, 12), (1, 5, 9, 13), (2, 6, 10, 14), (3, 7, 11, 15),
   (0, 5, 10, 15), (1, 6, 11, 12), (2, 7, 8, 13), (3, 4, 9, 14)]

/-- One double-round (44_chacha_aes_sse.md R264). -/
def doubleRound (r1 r2 r3 r4 : Nat) (x : List (BitVec 32)) : List (BitVec 32) :=
  roundIndices.foldl (fun x q => quarterRound r1 r2 r3 r4 q.1 q.2.1 q.2.2.1 q.2.2.2 x) x

/-- `BLOCK(c; DR; r1, r2, r3, r4)` (44_chacha_aes_sse.md R264). -/
def chachaBlock (DR r1 r2 r3 r4 : Nat) (c : List (BitVec 32)) : List (BitVec 32) :=
  List.zipWith (· + ·) ((doubleRound r1 r2 r3 r4)^[DR] c) c

/-- The state after a block: the 64-bit counter in words 12 and 13 goes up by one, modulo 2^64; no other word changes
(44_chacha_aes_sse.md R262). -/
def chachaNext (c : List (BitVec 32)) : List (BitVec 32) :=
  let ctr := ((c.getD 12 0).toNat + 2 ^ 32 * (c.getD 13 0).toNat + 1) % 2 ^ 64
  (c.set 12 (BitVec.ofNat 32 (ctr % 2 ^ 32))).set 13 (BitVec.ofNat 32 (ctr / 2 ^ 32))

/-- Two 64-bit lanes as a 128-bit word, lane 0 low (10_state.md R24). -/
def join (lo hi : BitVec 64) : BitVec 128 := hi ++ lo

/-- ARS's round key i, `key + i · WEYL` on each 64-bit lane (44_chacha_aes_sse.md R267). -/
def arsKey (klo khi : BitVec 64) (i : Nat) : BitVec 128 :=
  join (klo + BitVec.ofNat 64 i * 0x9E3779B97F4A7C15) (khi + BitVec.ofNat 64 i * 0xBB67AE8584CAA73B)

/-! ## 45_seeding.md -/

/-- The bad-list fixup of one JSF lane (45_seeding.md R322). -/
def jsfFix {W : Nat} (bad : List (JsfTuple W)) (l : Four W) : Four W :=
  if ⟨l.a, l.b, l.c, l.d⟩ ∈ bad then ⟨l.a, l.b, l.c, l.d + 1⟩ else l

/-- The words xored one by one. -/
def Two.xor (x y : Two 64) : Two 64 := ⟨x.a ^^^ y.a, x.b ^^^ y.b⟩

/-- The words xored one by one. -/
def Four.xor (x y : Four 64) : Four 64 := ⟨x.a ^^^ y.a, x.b ^^^ y.b, x.c ^^^ y.c, x.d ^^^ y.d⟩

/-- `JUMP`: for every set bit of the polynomial, bit 0 of word 0 first, the state the lane has reached by then is added to
the sum; the lane steps once per bit (45_seeding.md R339). `bits` holds the polynomial's bits in that order. -/
def jump {α : Type} (add : α → α → α) (step : α → α) (zero : α) (bits : List Bool) (s : α) : α :=
  (bits.foldl (fun p b => (if b then add p.1 p.2 else p.1, step p.2)) (zero, s)).1

/-- The bits of a jump polynomial, bit 0 of word 0 first (45_seeding.md R339). -/
def polyBits (p : List (BitVec 64)) : List Bool := p.flatMap fun w => (List.range 64).map w.getLsbD

/-- One jump of XOROSHIRO128SS (45_seeding.md R339, R340). -/
def xoroshiroJump (p : Params) (l : Two 64) : Two 64 :=
  jump Two.xor xoroshiro128 ⟨0, 0⟩ (polyBits p.xoroshiroJump.toList) l

/-- One jump of XOSHIRO256SS (45_seeding.md R339, R341). -/
def xoshiro256Jump (p : Params) (l : Four 64) : Four 64 :=
  jump Four.xor (xoshiro4 17 45) ⟨0, 0, 0, 0⟩ (polyBits p.xoshiro256Jump.toList) l

/-! ## AES, entry by entry (40_lane_vector.md R142 to R144, R148) -/

/-- Multiplication in GF(2^8) modulo 0x11B, by the bits of the first factor from the lowest (40_lane_vector.md R142). -/
def gfMulLoop : (n : Nat) → (x y : BitVec 8) → BitVec 8
  | 0, _, _ => 0
  | n + 1, x, y =>
    (if x.getLsbD 0 then y else 0)
      ^^^ gfMulLoop n (x >>> 1) ((y <<< 1) ^^^ (if y.getLsbD 7 then 0x1B else 0))

/-- The product of two bytes in GF(2^8). -/
def gfMul (x y : BitVec 8) : BitVec 8 := gfMulLoop 8 x y

/-- `x^(2^n) · …`: the n-th repeated square. -/
def gfSquares : (n : Nat) → BitVec 8 → BitVec 8
  | 0, x => x
  | n + 1, x => gfSquares n (gfMul x x)

/-- The multiplicative inverse, 0 for 0: x^254 = x^2 · x^4 · … · x^128 (40_lane_vector.md R147). -/
def gfInv (x : BitVec 8) : BitVec 8 :=
  [2, 3, 4, 5, 6, 7].foldl (fun acc n => gfMul acc (gfSquares n x)) (gfSquares 1 x)

/-- The affine map of the S-box (40_lane_vector.md R147). -/
def affine (b : BitVec 8) : BitVec 8 :=
  b ^^^ b.rotateRight 4 ^^^ b.rotateRight 5 ^^^ b.rotateRight 6 ^^^ b.rotateRight 7 ^^^ 0x63

/-- Entry (r, c) of a block: byte r + 4c (40_lane_vector.md R148). -/
def entry (v : BitVec 128) (r c : Nat) : BitVec 8 := v.extractLsb' (8 * (r + 4 * c)) 8

end Sys2Proof.Ref
end

