-- ==== Sys2Proof/Safety.lean ====
section
/-! DEFINITION. The terms the statements use: the shapes of 10_state.md R22, the chunk size and the seed image's length
(20_memory.md R64, R67), the valid states of 45_seeding.md R304, when a GEN or a FILL may run, what a run may do to the
state at all (the invariant), and the ways to read the state lane by lane. The tables are written out from the spec a second
time; no meaning of the machine reads them. -/

namespace Sys2Proof.Machine

/-! ## The families' shapes (10_state.md R22) -/

/-- W, the element width of a family's state words (10_state.md R22). -/
def famWidth : Fam → Nat
  | .xorshift32 | .xorshift128 | .xoshiro128ss => 32
  | .xorshift128plus | .xoroshiro128ss | .xoshiro256ss | .xoshiro512ss => 64
  | .pcg32 | .pcg32Xsh | .pcg32Xsl | .lcg32 => 64
  | .lcg16 => 32
  | .jsf32 | .lfsr113 | .sfc32 | .xsm32 => 32
  | .jsf64 | .lfsr258 | .mwc | .sfc64 | .xsm64 => 64
  | .sfc16 => 16
  | .chacha4 | .chacha4f | .sselcg => 32
  | .ars5 | .ars7 | .aesrand => 128

/-- K, the number of a family's state words (10_state.md R22). -/
def famWords (p : Params) : Fam → Nat
  | .xorshift32 => 1
  | .xorshift128 => 4
  | .xorshift128plus => 2
  | .xoroshiro128ss => 2
  | .xoshiro128ss => 4
  | .xoshiro256ss => 4
  | .xoshiro512ss => 8
  | .pcg32 | .pcg32Xsh | .pcg32Xsl | .lcg32 | .lcg16 => 2
  | .jsf32 | .jsf64 => 4
  | .lfsr113 => 4
  | .lfsr258 => 5
  | .mwc => 1
  | .sfc64 | .sfc32 | .sfc16 => 4
  | .xsm32 | .xsm64 => p.xsmK
  | .chacha4 | .chacha4f => 16
  | .ars5 | .ars7 => 2
  | .aesrand => 1
  | .sselcg => 1

/-- N, the lane count of an instance (10_state.md R22). -/
def shapeLanes (f : Fam) (n : Lanes) : Nat :=
  match f with
  | .chacha4 | .chacha4f | .ars5 | .ars7 | .aesrand => 1
  | .sselcg => 4
  | _ => n.count

/-- VB, the bytes of one output vector's image (20_memory.md R67). -/
def chunkSize (f : Fam) (n : Lanes) : Nat :=
  match f with
  | .xorshift32 | .xorshift128 | .xoshiro128ss | .pcg32 | .pcg32Xsh | .pcg32Xsl | .lcg32 | .jsf32 | .lfsr113 | .sfc32
  | .xsm32 => 4 * n.count
  | .xorshift128plus | .xoroshiro128ss | .xoshiro256ss | .xoshiro512ss | .jsf64 | .lfsr258 | .mwc | .sfc64
  | .xsm64 => 8 * n.count
  | .lcg16 | .sfc16 => 2 * n.count
  | .chacha4 | .chacha4f => 64
  | .ars5 | .ars7 | .aesrand | .sselcg => 16

/-- SB, the length of a seed image (20_memory.md R64). -/
def seedLength (p : Params) (f : Fam) (n : Lanes) : Nat :=
  match f with
  | .chacha4 | .chacha4f => 32
  | .aesrand => 16
  | _ => famWords p f * (shapeLanes f n * (famWidth f / 8))

/-- A register of N lanes of W bits. -/
def LaneVec.Shaped (W N : Nat) : LaneVec → Prop
  | .u16 v => W = 16 ∧ v.length = N
  | .u32 v => W = 32 ∧ v.length = N
  | .u64 v => W = 64 ∧ v.length = N
  | .u128 v => W = 128 ∧ v.length = N

/-- The state words of a family at a lane count: K words of N lanes of W bits (10_state.md R22). -/
def Shaped (p : Params) (f : Fam) (n : Lanes) (S : List LaneVec) : Prop :=
  S.length = famWords p f ∧ ∀ w ∈ S, w.Shaped (famWidth f) (shapeLanes f n)

/-! ## The state, lane by lane -/

/-- The state image of a list of registers: word after word (20_memory.md R64). -/
def stateBytes (S : List LaneVec) : List Byte := S.flatMap LaneVec.image

/-- Two words per lane, of 64 bits, as registers. -/
def pair64 (ls : List (Ref.Two 64)) : List LaneVec := [.u64 (ls.map (·.a)), .u64 (ls.map (·.b))]

/-- Two words per lane, of 32 bits, as registers. -/
def pair32 (ls : List (Ref.Two 32)) : List LaneVec := [.u32 (ls.map (·.a)), .u32 (ls.map (·.b))]

/-- Four words per lane, of 16 bits, as registers. -/
def quad16 (ls : List (Ref.Four 16)) : List LaneVec :=
  [.u16 (ls.map (·.a)), .u16 (ls.map (·.b)), .u16 (ls.map (·.c)), .u16 (ls.map (·.d))]

/-- Four words per lane, of 32 bits, as registers. -/
def quad32 (ls : List (Ref.Four 32)) : List LaneVec :=
  [.u32 (ls.map (·.a)), .u32 (ls.map (·.b)), .u32 (ls.map (·.c)), .u32 (ls.map (·.d))]

/-- Four words per lane, of 64 bits, as registers. -/
def quad64 (ls : List (Ref.Four 64)) : List LaneVec :=
  [.u64 (ls.map (·.a)), .u64 (ls.map (·.b)), .u64 (ls.map (·.c)), .u64 (ls.map (·.d))]

/-- Five words per lane, of 64 bits, as registers. -/
def five64 (ls : List (Ref.Five 64)) : List LaneVec :=
  [.u64 (ls.map (·.a)), .u64 (ls.map (·.b)), .u64 (ls.map (·.c)), .u64 (ls.map (·.d)), .u64 (ls.map (·.e))]

/-- Eight words per lane, of 64 bits, as registers. -/
def eight64 (ls : List (Ref.Eight 64)) : List LaneVec :=
  [.u64 (ls.map (·.a)), .u64 (ls.map (·.b)), .u64 (ls.map (·.c)), .u64 (ls.map (·.d)),
   .u64 (ls.map (·.e)), .u64 (ls.map (·.f)), .u64 (ls.map (·.g)), .u64 (ls.map (·.h))]

/-- K words per lane, of 32 bits, as registers. -/
def words32 (K : Nat) (ls : List (List (BitVec 32))) : List LaneVec :=
  (List.range K).map fun k => .u32 (ls.map fun l => l.getD k 0)

/-- K words per lane, of 64 bits, as registers. -/
def words64 (K : Nat) (ls : List (List (BitVec 64))) : List LaneVec :=
  (List.range K).map fun k => .u64 (ls.map fun l => l.getD k 0)

/-- Sixteen words of one lane, as the ChaCha families hold them (44_chacha_aes_sse.md R260). -/
def oneLane32 (c : List (BitVec 32)) : List LaneVec := c.map fun w => .u32 [w]

/-- Lane j of a register is zero. -/
def LaneVec.ZeroAt (j : Nat) : LaneVec → Prop
  | .u16 v => v[j]? = some 0
  | .u32 v => v[j]? = some 0
  | .u64 v => v[j]? = some 0
  | .u128 v => v[j]? = some 0

/-- Lane j is degenerate: every state word is zero in it (45_seeding.md R302). -/
def Degenerate (S : List LaneVec) (j : Nat) : Prop := ∀ w ∈ S, w.ZeroAt j

/-! ## The validator (45_seeding.md R304) -/

/-- The seven families whose validator always avoids a zero lane (45_seeding.md R304; MWC has a parameter of its own). -/
def avoidsZero : Fam → Bool
  | .xorshift32 | .xorshift128 | .xorshift128plus | .xoroshiro128ss | .xoshiro128ss | .xoshiro256ss | .xoshiro512ss => true
  | _ => false

/-- Every lane of `inc`, the second word, is odd (45_seeding.md R304). -/
def OddInc : List LaneVec → Prop
  | [_, .u64 inc] => ∀ x ∈ inc, x.getLsbD 0 = true
  | [_, .u32 inc] => ∀ x ∈ inc, x.getLsbD 0 = true
  | _ => False

/-- Every lane of word i is above `2^(k_i) - 1`, the threshold of row i (45_seeding.md R304, R324). -/
def AboveThresholds {W : Nat} (tab : List (LfsrRow W)) (ws : List (Vec W)) : Prop :=
  List.Forall₂ (fun r w => ∀ x ∈ w, 2 ^ r.k.val - 1 < x.toNat) tab ws

/-- What the test of a seeding asks of the words loaded, the fixups already applied (45_seeding.md R303, R324, R326, R343). -/
def Accepted (p : Params) (f : Fam) (n : Lanes) (S : List LaneVec) : Prop :=
  match f with
  | .xorshift32 | .xorshift128 | .xorshift128plus | .xoroshiro128ss | .xoshiro128ss | .xoshiro256ss | .xoshiro512ss =>
    ∀ j < n.count, ¬ Degenerate S j
  | .mwc => p.mwcZeroAvoid = true → ∀ j < n.count, ¬ Degenerate S j
  | .lfsr113 => AboveThresholds p.lfsr113Tab.toList (S.map LaneVec.as32)
  | .lfsr258 => AboveThresholds p.lfsr258Tab.toList (S.map LaneVec.as64)
  | _ => True

/-- No lane's words are in the bad list (45_seeding.md R304, R322). -/
def NotBad {W : Nat} (bad : List (JsfTuple W)) (ls : List (Ref.Four W)) : Prop :=
  ∀ l ∈ ls, (⟨l.a, l.b, l.c, l.d⟩ : JsfTuple W) ∉ bad

/-- The side condition on a bad list: no two of its tuples are (a, b, c, d) and (a, b, c, d + 1) (45_seeding.md R322). -/
def BadListOk {W : Nat} (bad : List (JsfTuple W)) : Prop :=
  ∀ t ∈ bad, (⟨t.a, t.b, t.c, t.d + 1⟩ : JsfTuple W) ∉ bad

/-- The layout of a fresh ChaCha instance, with the key open (45_seeding.md R304, R332; 44_chacha_aes_sse.md R260). -/
def ChachaFresh (key : List (BitVec 32)) : List (BitVec 32) :=
  [0x61707865, 0x3320646E, 0x79622D32, 0x6B206574] ++ key ++ [0, 0, 0, 0]

/-- `ValidState(FAM, S)` (45_seeding.md R304). -/
def ValidState (p : Params) (f : Fam) (n : Lanes) (S : List LaneVec) : Prop :=
  match f with
  | .pcg32 | .pcg32Xsh | .pcg32Xsl | .lcg32 | .lcg16 => OddInc S
  | .jsf32 => ∃ ls, S = quad32 ls ∧ NotBad p.jsf32Bad ls
  | .jsf64 => ∃ ls, S = quad64 ls ∧ NotBad p.jsf64Bad ls
  | .chacha4 | .chacha4f => ∃ key : List (BitVec 32), key.length = 8 ∧ S = oneLane32 (ChachaFresh key)
  | f => Accepted p f n S

/-- The words a seeding makes of a seed image: the load of 20_memory.md R64 and the fixups (45_seeding.md R317 to R323,
R332, R343). -/
def SeedLoads (p : Params) (f : Fam) (n : Lanes) (bytes : List Byte) (S : List LaneVec) : Prop :=
  match f with
  | .pcg32 | .pcg32Xsh | .pcg32Xsl | .lcg32 =>
    ∃ ls : List (Ref.Two 64), ls.length = n.count ∧ bytes = stateBytes (pair64 ls) ∧
      S = pair64 (ls.map fun l => ⟨l.a, l.b ||| 1⟩)
  | .lcg16 =>
    ∃ ls : List (Ref.Two 32), ls.length = n.count ∧ bytes = stateBytes (pair32 ls) ∧
      S = pair32 (ls.map fun l => ⟨l.a, l.b ||| 1⟩)
  | .jsf32 =>
    ∃ ls : List (Ref.Four 32), ls.length = n.count ∧ bytes = stateBytes (quad32 ls) ∧
      S = quad32 (ls.map (Ref.jsfFix p.jsf32Bad))
  | .jsf64 =>
    ∃ ls : List (Ref.Four 64), ls.length = n.count ∧ bytes = stateBytes (quad64 ls) ∧
      S = quad64 (ls.map (Ref.jsfFix p.jsf64Bad))
  | .chacha4 | .chacha4f =>
    ∃ key : List (BitVec 32), key.length = 8 ∧ bytes = image key ∧ S = oneLane32 (ChachaFresh key)
  | f => Shaped p f n S ∧ bytes = stateBytes S

/-- The draws of one word of an LFSR state, from `first`: every draw but the last has a lane at or below the threshold T,
the last has none and is `last`; each is of N lanes (45_seeding.md R324). -/
def WordHistory {W : Nat} (N T : Nat) : (first : Vec W) → (more : List (Vec W)) → (last : Vec W) → Prop
  | first, [], last => first.length = N ∧ last = first ∧ ∀ x ∈ first, T < x.toNat
  | first, v :: more, last => first.length = N ∧ (∃ x ∈ first, x.toNat ≤ T) ∧ WordHistory N T v more last

/-- The draws of one word of an LFSR state, `first` and then `more`, that the validator all rejects: each is of N lanes with a
lane at or below the threshold T (45_seeding.md R324). -/
def WordRejected {W : Nat} (N T : Nat) (first : Vec W) (more : List (Vec W)) : Prop :=
  ∀ v ∈ first :: more, v.length = N ∧ ∃ x ∈ v, x.toNat ≤ T

/-- The answers to a seeding's re-draws of words, one history after another (45_seeding.md R324). -/
def redraws {W : Nat} (h : List (Vec W × List (Vec W) × Vec W)) : List EntAnswer :=
  h.flatMap fun w => w.2.1.map fun v => EntAnswer.ok (image v)

/-- How many re-draws those are. -/
def redrawCount {W : Nat} (h : List (Vec W × List (Vec W) × Vec W)) : Nat := (h.map fun w => w.2.1.length).sum

/-- The output of `ARS(R)` on a counter and a key: the whitening, R - 1 rounds with round keys 1 to R - 1, and the last
round with round key R (44_chacha_aes_sse.md R267). -/
def arsReference (prewhiten : Bool) (R : Nat) (clo chi klo khi : BitVec 64) : BitVec 128 :=
  let v0 := if prewhiten then Ref.join clo chi ^^^ Ref.join klo khi else Ref.join clo chi
  aesEncLast ((List.range (R - 1)).foldl (fun v i => aesEnc v (Ref.arsKey klo khi (i + 1))) v0) (Ref.arsKey klo khi R)

/-! ## When a command runs -/

/-- The checks of GEN and FILL pass: no error is recorded, and the engine holds an instance of this family at this lane
count (47_control.md R364). -/
def Ready (s : State) (f : Fam) (n : Lanes) : Prop :=
  f.admits n = true ∧ s.err = .none ∧ s.valid = true ∧ s.cfg = cfgOf f n

/-- The instance's registers have the family's shape, and BUF holds one value where BUFV says so (10_state.md R22, R28). -/
def HoldsShape (s : State) (f : Fam) (n : Lanes) : Prop :=
  Shaped s.par f n s.inst.S ∧ (f = .aesrand → s.inst.bufv = true → s.inst.buf.length = 1)

/-- A command that a host can issue at this state is not held up: no seeding holds the host for ever, and the host's next action is
the write of the word `w` to CMD (47_control.md R360). -/
def Issues (s : State) (w : Word) (rest : List HostAction) : Prop :=
  s.pend = none ∧ s.host = .write 0 32 w :: rest

/-- The next action of the host is `a`, and no seeding holds it for ever. -/
def Performs (s : State) (a : HostAction) (rest : List HostAction) : Prop :=
  s.pend = none ∧ s.host = a :: rest

/-- `k` commands `i` one after another, each answering a next state. -/
def execTimes (i : Instr) : Nat → State → Option State
  | 0, s => some s
  | k + 1, s =>
    match exec i s with
    | .next s' => execTimes i k s'
    | .fault _ => none
    | .refused _ => none

/-! ## What every step keeps -/

/-- What GEN keeps of a seeded instance beyond its shape: `inc` stays odd (42_pcg_lcg.md: no step changes it), and ChaCha's
words 0 to 3, 14 and 15 stay as seeded (44_chacha_aes_sse.md R262). -/
def Kept (f : Fam) (S : List LaneVec) : Prop :=
  match f with
  | .pcg32 | .pcg32Xsh | .pcg32Xsl | .lcg32 | .lcg16 => OddInc S
  | .chacha4 | .chacha4f =>
    S.take 4 = oneLane32 [0x61707865, 0x3320646E, 0x79622D32, 0x6B206574] ∧ S.drop 14 = oneLane32 [0, 0]
  | _ => True

/-- What the instance is while VALID = 1: CFG names a family at a lane count it admits, and the registers have its shape
(10_state.md R21, R22, R25, R28). -/
def InstanceOk (s : State) : Prop :=
  ∃ f n, f.admits n = true ∧ s.cfg = cfgOf f n ∧ HoldsShape s f n ∧ Kept f s.inst.S

/-- A seeding that never completes: a well-formed SEED_RNG, or a SEED_BLOCKS of a family that has it, that no error blocked,
with the old instance gone and no listed answer left (45_seeding.md R300, R340, R341, R346). -/
def PendingOk (s : State) (i : Instr) : Prop :=
  i.wf = true ∧ s.err = .none ∧ s.valid = false ∧ s.inst = Inst.empty ∧ s.ent = [] ∧
  ∃ f n, i = Instr.seedRng f n ∨ (i = Instr.seedBlocks f n ∧ (f = .xoroshiro128ss ∨ f = .xoshiro256ss))

/-- The invariant of the machine: the seed FIFO holds at most 2048 bytes (20_memory.md R68); with VALID = 0 CFG is (0, 0)
and with VALID = 1 the instance is as CFG says (10_state.md R25); BUFV is 1 only for an AESRAND instance (R28); the error
registers agree: ERRCMD and ENTCODE are 0 without an error, and ENTCODE is 0 but for E_ENTROPY (R33, 60_exceptions.md R383);
a seeding that never completes is one that can be (log 5). -/
def Inv (s : State) : Prop :=
  s.fifo.length ≤ 2048 ∧
  (s.valid = true → InstanceOk s) ∧
  (s.valid = false → s.cfg = ⟨0, 0⟩) ∧
  (s.inst.bufv = true → s.valid = true ∧ s.cfg.fam = Fam.aesrand.code) ∧
  (s.err = .none → s.errcmd = 0) ∧
  (s.err ≠ .entropy → s.entcode = 0) ∧
  (∀ i, s.pend = some i → PendingOk s i)

end Sys2Proof.Machine
end

