-- ==== Sys2Proof/Certificates/Slice0/Obligations.lean ====
section
/-! DEFINITION. The statements for the provers. Each names in its docstring the rule of spec/ it formalises; a statement
that rests on a choice of the model says so and names the log entry. The vocabulary stands in Sys2Proof/Reference.lean (the
rules on one lane) and Sys2Proof/Safety.lean (shapes, valid states, the invariant). -/

open Sys2Proof Sys2Proof.Machine

/-! ## Reset and the control commands -/

/-- 10_state.md R37: the values its table gives; STATUS, BUFV in it, reads 0. What the table gives no value (S, BUF, BUFV as
state) and the model's own fields (par, host, ent, draws, pend, rdata) are not spoken of. -/
def Obligations.ResetLeavesTheSpecsValues : Prop :=
  State.reset.cfg = ⟨0x00, 0⟩ ∧ State.reset.valid = false ∧ State.reset.err = .none ∧ State.reset.errcmd = 0 ∧
  State.reset.entcode = 0 ∧ State.reset.len = 0 ∧ State.reset.fifo = [] ∧ State.reset.out = [] ∧
  State.reset.status = 0

/-- 70_reset_and_hazards.md R410. The model's choices in it: that the reset is an action of the host's list, taken only where
no seeding holds the host (log 15); that S, BUF and BUFV, without value by the rule, are as State.reset has them (log 1, 2);
and the lists of answers and of host actions, the free-value counter, the parameters and the value last read (log 3, 4, 6, 7). -/
def Obligations.HardwareResetRestoresTheResetState : Prop :=
  ∀ (s : State) (rest : List HostAction), Performs s .reset rest →
    step s = .next { State.reset with
      par := s.par, host := rest, ent := s.ent, draws := s.draws, rdata := s.rdata }

/-- 47_control.md R361, R362, R363. NOP, with an error recorded or without one, has no effect. That S, BUF and BUFV, without
value after RESET by the rule, are as State.reset has them is the model's choice (log 1, 2, 13). -/
def Obligations.ControlCommandsDoExactlyTheirEffect : Prop :=
  ∀ s : State,
    exec .nop s = .next s ∧
    exec .clrerr s = .next { s with err := .none, errcmd := 0, entcode := 0 } ∧
    exec .reset s = .next { State.reset with
      par := s.par, out := s.out, host := s.host, ent := s.ent, draws := s.draws, pend := s.pend, rdata := s.rdata }

/-! ## Encoding -/

/-- 30_encoding.md R90, R92, R93, R94, R102: words written out from the fields, one per family and more, and four words
that are refused. -/
def Obligations.SpecWordsDecodeToTheirCommands : Prop :=
  (∀ p ∈ ([
      (0x00000000, .nop), (0x60000000, .clrerr), (0x70000000, .reset),
      (0x40140000, .genXorshift32 .x4), (0x10220000, .seedRngXorshift128 .x2), (0x50380000, .fillXorshift128plus .x16),
      (0x20420000, .seedBlocksXoroshiro128ss .x2), (0x40560000, .genXoshiro128ss .x8),
      (0x20660000, .seedBlocksXoshiro256ss .x8), (0x30740000, .seedFixedXoshiro512ss .x4), (0x10820000, .seedRngPcg32 .x2),
      (0x40920000, .genPcg32Xsh .x2), (0x50A40000, .fillPcg32Xsl .x4), (0x30B60000, .seedFixedLcg32 .x8),
      (0x10C80000, .seedRngLcg16 .x16), (0x40D20000, .genJsf32 .x2), (0x30E80000, .seedFixedJsf64 .x16),
      (0x10F20000, .seedRngLfsr113 .x2), (0x51040000, .fillLfsr258 .x4), (0x41160000, .genMwc .x8),
      (0x21220000, .seedBlocksSfc64 .x2), (0x41340000, .genSfc32 .x4), (0x31460000, .seedFixedSfc16 .x8),
      (0x11580000, .seedRngXsm32 .x16), (0x41620000, .genXsm64 .x2), (0x51700000, .fillChacha4),
      (0x41800000, .genChacha4f), (0x11900000, .seedRngArs5), (0x21A00000, .seedBlocksArs7),
      (0x31B00000, .seedFixedAesrand), (0x41C00000, .genSselcg)] : List (Word × Instr)),
    decode p.1 = .ok p.2) ∧
  decode 0x80000000 = .error .reservedOp ∧ decode 0x00000001 = .error .zeroField ∧
  decode 0x41D20000 = .error .family ∧ decode 0x41180000 = .error .laneCount

/-- 30_encoding.md R90, R96: no command loses anything in its word. -/
def Obligations.DecodingAnEncodedCommandGivesItBack : Prop :=
  ∀ i : Instr, i.wf = true → decode (encode i) = .ok i

/-- 30_encoding.md R96: a word decodes to at most one command, and to one whose word it is. -/
def Obligations.EncodingADecodedWordGivesItBack : Prop :=
  ∀ (w : Word) (i : Instr), decode w = .ok i → i.wf = true ∧ encode i = w

/-- 30_encoding.md R95, with the fields as integers: OP, FAM, LN and ZERO of R90; and the count of the well-formed words. -/
def Obligations.WellFormedWordsAreThoseOfTheFields : Prop :=
  (∀ w : Word,
    let op := w.toNat / 2 ^ 28
    let fam := w.toNat / 2 ^ 20 % 256
    let ln := w.toNat / 2 ^ 17 % 8
    (∃ i, decode w = .ok i) ↔
      op ≤ 7 ∧ w.toNat % 2 ^ 17 = 0 ∧
      ((op = 0 ∨ op = 6 ∨ op = 7) → fam = 0 ∧ ln = 0) ∧
      ((1 ≤ op ∧ op ≤ 5) → 1 ≤ fam ∧ fam ≤ 0x1C ∧
        (if 0x17 ≤ fam then ln = 0
         else if fam = 0x11 then 1 ≤ ln ∧ ln ≤ 3
         else 1 ≤ ln ∧ ln ≤ 4))) ∧
  ∃ ws : List Word, ws.Nodup ∧ ws.length = 468 ∧ ∀ w, w ∈ ws ↔ ∃ i, decode w = .ok i

/-! ## Command issue, errors, register accesses -/

/-- 47_control.md R360, 20_memory.md R74: the step runs the command the word on CMD decodes to, in the state in which the
host has made that access. -/
def Obligations.StepRunsTheDecodedCommand : Prop :=
  ∀ (s : State) (w : Word) (rest : List HostAction) (i : Instr),
    Issues s w rest → decode w = .ok i → step s = exec i { s with host := rest }

/-- 47_control.md R360, its five steps in order. That S, BUF and BUFV, without value after RESET (R363), are as State.reset has
them is the model's choice (log 1, 2, 13). -/
def Obligations.CommandIssueFollowsItsFiveSteps : Prop :=
  ∀ (s : State) (w : Word) (rest : List HostAction), Issues s w rest →
    (w = 0x60000000 → step s = .next { s with host := rest, err := .none, errcmd := 0, entcode := 0 }) ∧
    (w = 0x70000000 → step s = .next { State.reset with
      par := s.par, out := s.out, host := rest, ent := s.ent, draws := s.draws, rdata := s.rdata }) ∧
    (w ≠ 0x60000000 → w ≠ 0x70000000 → s.err ≠ .none → step s = .next { s with host := rest }) ∧
    (w ≠ 0x60000000 → w ≠ 0x70000000 → s.err = .none → (∀ i, decode w ≠ .ok i) →
      step s = .next { s with host := rest, err := .illegal, errcmd := w, entcode := 0 }) ∧
    (w ≠ 0x60000000 → w ≠ 0x70000000 → s.err = .none → ∀ i, decode w = .ok i →
      step s = exec i { s with host := rest })

/-- 60_exceptions.md R381, its list of ill-formed words; nothing but ERR, ERRCMD and ENTCODE changes. -/
def Obligations.EveryIllFormedWordRaisesIllegal : Prop :=
  ∀ (s : State) (w : Word) (rest : List HostAction), Issues s w rest → s.err = .none →
    (let op := w.toNat / 2 ^ 28
     let fam := w.toNat / 2 ^ 20 % 256
     let ln := w.toNat / 2 ^ 17 % 8
     7 < op ∨ w.toNat % 2 ^ 17 ≠ 0 ∨
     ((op = 0 ∨ op = 6 ∨ op = 7) ∧ (fam ≠ 0 ∨ ln ≠ 0)) ∨
     (1 ≤ op ∧ op ≤ 5 ∧
       (fam = 0 ∨ 0x1C < fam ∨ 4 < ln ∨ (ln = 0 ∧ fam < 0x17) ∨ (ln ≠ 0 ∧ 0x17 ≤ fam) ∨ (ln = 4 ∧ fam = 0x11)))) →
    step s = .next { s with host := rest, err := .illegal, errcmd := w, entcode := 0 }

/-- 60_exceptions.md R384: what a recorded error blocks and what it does not. -/
def Obligations.AnErrorBlocksAllButClrerrAndReset : Prop :=
  ∀ (s : State) (rest : List HostAction), s.err ≠ .none →
    (∀ w, w ≠ 0x60000000 → w ≠ 0x70000000 → Issues s w rest → step s = .next { s with host := rest }) ∧
    (Issues s 0x60000000 rest → step s = .next { s with host := rest, err := .none, errcmd := 0, entcode := 0 }) ∧
    (Issues s 0x70000000 rest → ∃ t, step s = .next t ∧ t.err = .none ∧ t.errcmd = 0 ∧ t.entcode = 0) ∧
    (∀ off, off < 0x800 → off % 4 = 0 → Performs s (.read off 32) rest →
      ∃ t, step s = .next t ∧ t.rdata = ({ s with host := rest } : State).readReg off) ∧
    (∀ v, Performs s (.write 0x010 32 v) rest → step s = .next { s with host := rest, len := v }) ∧
    (∀ v, Performs s (.write 0x014 32 v) rest → s.fifo.length < 2048 →
      step s = .next { s with host := rest, fifo := s.fifo ++ [v.setWidth 8] })

/-- The values of the registers below the STATE window (10_state.md R30, R27, R34; 60_exceptions.md R380): the fields as
integers, BUFV shown only for AESRAND with VALID = 1, BUSY and every unnamed bit 0, and 0 at every other offset. -/
def Obligations.RegisterReadsReturnTheirFields : Prop :=
  ∀ (s : State) (off : Nat) (rest : List HostAction), Performs s (.read off 32) rest → off % 4 = 0 → off < 0x400 →
    step s = .next { s with
      host := rest
      rdata := match off with
        | 0x004 => BitVec.ofNat 32
            ((if s.valid then 1 else 0) + (if s.valid ∧ s.cfg.fam = 0x1B ∧ s.inst.bufv then 2 else 0)
              + (if s.err = .none then 0 else 4) + 256 * s.cfg.fam.toNat + 65536 * s.cfg.ln.toNat)
        | 0x008 => match s.err with
          | .none => 0 | .entropy => 1 | .unsupported => 2 | .illegal => 3 | .notSeeded => 4 | .mismatch => 5 | .badSeed => 6
        | 0x00C => s.entcode
        | 0x010 => s.len
        | 0x018 => BitVec.ofNat 32 s.fifo.length
        | 0x01C => s.errcmd
        | _ => 0 }

/-- 47_control.md R368: what each register access does, whether an error is recorded or not. A read of the STATE window while
a byte of it has no value uses up a free value (log 7), and changes nothing else. -/
def Obligations.RegisterAccessesHaveTheirEffects : Prop :=
  ∀ (s : State) (off : Nat) (rest : List HostAction), off % 4 = 0 → off < 0x800 →
    (∀ v, Performs s (.write off 32 v) rest →
      (off = 0x000 → ∀ i, decode v = .ok i → step s = exec i { s with host := rest }) ∧
      (off = 0x010 → step s = .next { s with host := rest, len := v }) ∧
      (off = 0x014 → step s = .next { s with
        host := rest, fifo := if s.fifo.length < 2048 then s.fifo ++ [v.setWidth 8] else s.fifo }) ∧
      (off ≠ 0x000 → off ≠ 0x010 → off ≠ 0x014 → step s = .next { s with host := rest })) ∧
    (Performs s (.read off 32) rest → ∃ d, step s = .next { s with
      host := rest, rdata := ({ s with host := rest } : State).readReg off, draws := d })

/-- 10_state.md R35: a 32-bit read at 0x400 + 4i shows bytes 4i to 4i + 3 of the state image, for AESRAND followed by the 16
bytes of BUF, then zeros. An AESRAND instance before its first GEN has no value in BUF (45_seeding.md R336): its counter and
the zeros past byte 31 are shown, and the 16 bytes between are free (log 2, 7). With VALID = 0 the read yields an unspecified
value (a free one, log 7). The read has no side effect. -/
def Obligations.TheStateWindowShowsTheInstance : Prop :=
  ∀ (s : State) (i : Nat) (rest : List HostAction), Performs s (.read (0x400 + 4 * i) 32) rest → i < 256 →
    (∀ f n, f.admits n = true → s.valid = true → s.cfg = cfgOf f n → HoldsShape s f n →
      (f = .aesrand → s.inst.buf.length = 1) →
      let img := stateBytes s.inst.S ++ (if f = .aesrand then image s.inst.buf else [])
      ∃ r : Word, step s = .next { s with host := rest, rdata := r } ∧
        r.toNat = (img.getD (4 * i) 0).toNat + 2 ^ 8 * (img.getD (4 * i + 1) 0).toNat
          + 2 ^ 16 * (img.getD (4 * i + 2) 0).toNat + 2 ^ 24 * (img.getD (4 * i + 3) 0).toNat) ∧
    (∀ n, s.valid = true → s.cfg = cfgOf .aesrand n → HoldsShape s .aesrand n → s.inst.buf = [] →
      ∃ r : Word, step s = .next { s with host := rest, rdata := r, draws := s.draws + 1 } ∧
        ∀ j < 4, r.extractLsb' (8 * j) 8 =
          if 4 * i + j < 16 then (stateBytes s.inst.S).getD (4 * i + j) 0
          else if 4 * i + j < 32 then Config.windowByte s.draws (4 * i + j)
          else 0) ∧
    (s.valid = false → ∃ r : Word, step s = .next { s with host := rest, rdata := r, draws := s.draws + 1 } ∧
      ∀ j < 4, r.extractLsb' (8 * j) 8 = Config.windowByte s.draws (4 * i + j))

/-- The accesses the spec leaves outside itself (20_memory.md R71, R60): one that is not a naturally aligned 32-bit access is
refused; that an aligned one outside the 2048 bytes faults is the model's choice (log 10). -/
def Obligations.AccessesOutsideTheSpecStop : Prop :=
  ∀ (s : State) (off bits : Nat) (v : Word) (rest : List HostAction),
    (Performs s (.read off bits) rest ∨ Performs s (.write off bits v) rest) →
    ((bits ≠ 32 ∨ off % 4 ≠ 0) → step s = .refused (.notAligned32 off bits)) ∧
    (bits = 32 → off % 4 = 0 → 0x800 ≤ off → step s = .fault (.outsideRegisterSpace off))

/-! ## GEN: the wrapper -/

/-- 47_control.md R364, R365; 46_byte_adapter.md R350: GEN and FILL on an engine without an instance, or with another one. -/
def Obligations.GenAndFillCheckTheInstance : Prop :=
  ∀ (f : Fam) (n : Lanes) (s : State), f.admits n = true → s.err = .none →
    (s.valid = false →
      exec (Instr.gen f n) s = .next { s with err := .notSeeded, errcmd := encode (Instr.gen f n), entcode := 0 } ∧
      exec (Instr.fill f n) s = .next { s with err := .notSeeded, errcmd := encode (Instr.fill f n), entcode := 0 }) ∧
    (s.valid = true → s.cfg ≠ cfgOf f n →
      exec (Instr.gen f n) s = .next { s with err := .mismatch, errcmd := encode (Instr.gen f n), entcode := 0 } ∧
      exec (Instr.fill f n) s = .next { s with err := .mismatch, errcmd := encode (Instr.fill f n), entcode := 0 })

/-! ## GEN: the families' steps. Each says the whole next state: the new words, the bytes appended to OUT, all else as before -/

/-- 41_xorshift_xoshiro.md R170, R171. -/
def Obligations.GenXorshift32And128StepEveryLane : Prop :=
  (∀ (n : Lanes) (s : State) (xs : Vec 32), Ready s .xorshift32 n → s.inst.S = [.u32 xs] →
    exec (.genXorshift32 n) s = .next { s with
      inst := { s.inst with S := [.u32 (xs.map Ref.xorshift32)] }
      out := s.out ++ image (xs.map Ref.xorshift32) }) ∧
  (∀ (n : Lanes) (s : State) (ls : List (Ref.Four 32)), Ready s .xorshift128 n → s.inst.S = quad32 ls →
    exec (.genXorshift128 n) s = .next { s with
      inst := { s.inst with S := quad32 (ls.map Ref.xorshift128) }
      out := s.out ++ image (ls.map Ref.xorshift128New) })

/-- 41_xorshift_xoshiro.md R172: the parameter XORSHIFT128PLUS_PUBLISHED picks the reading; its default is false. -/
def Obligations.GenXorshift128plusStepsEveryLane : Prop :=
  defaultParams.xorshift128plusPublished = false ∧
  ∀ (n : Lanes) (s : State) (ls : List (Ref.Two 64)), Ready s .xorshift128plus n → s.inst.S = pair64 ls →
    exec (.genXorshift128plus n) s = .next { s with
      inst := { s.inst with S := pair64 (ls.map
        (if s.par.xorshift128plusPublished then Ref.xorshift128plusPublished else Ref.xorshift128plusLiteral)) }
      out := s.out ++ image (ls.map fun l => l.a + l.b) }

/-- 41_xorshift_xoshiro.md R173, R174. -/
def Obligations.GenXoroshiro128ssStepsEveryLane : Prop :=
  ∀ (n : Lanes) (s : State) (ls : List (Ref.Two 64)), Ready s .xoroshiro128ss n → s.inst.S = pair64 ls →
    exec (.genXoroshiro128ss n) s = .next { s with
      inst := { s.inst with S := pair64 (ls.map Ref.xoroshiro128) }
      out := s.out ++ image (ls.map fun l => Ref.starstar l.a) }

/-- 41_xorshift_xoshiro.md R175, R176. -/
def Obligations.GenXoshiro128ssAnd256ssStepEveryLane : Prop :=
  (∀ (n : Lanes) (s : State) (ls : List (Ref.Four 32)), Ready s .xoshiro128ss n → s.inst.S = quad32 ls →
    exec (.genXoshiro128ss n) s = .next { s with
      inst := { s.inst with S := quad32 (ls.map (Ref.xoshiro4 9 11)) }
      out := s.out ++ image (ls.map fun l => Ref.starstar l.b) }) ∧
  (∀ (n : Lanes) (s : State) (ls : List (Ref.Four 64)), Ready s .xoshiro256ss n → s.inst.S = quad64 ls →
    exec (.genXoshiro256ss n) s = .next { s with
      inst := { s.inst with S := quad64 (ls.map (Ref.xoshiro4 17 45)) }
      out := s.out ++ image (ls.map fun l => Ref.starstar l.b) })

/-- 41_xorshift_xoshiro.md R177. -/
def Obligations.GenXoshiro512ssStepsEveryLane : Prop :=
  ∀ (n : Lanes) (s : State) (ls : List (Ref.Eight 64)), Ready s .xoshiro512ss n → s.inst.S = eight64 ls →
    exec (.genXoshiro512ss n) s = .next { s with
      inst := { s.inst with S := eight64 (ls.map Ref.xoshiro8) }
      out := s.out ++ image (ls.map fun l => Ref.starstar l.b) }

/-- 42_pcg_lcg.md R200, R201. -/
def Obligations.GenPcg32StepsEveryLane : Prop :=
  ∀ (n : Lanes) (s : State) (ls : List (Ref.Two 64)), Ready s .pcg32 n → s.inst.S = pair64 ls →
    exec (.genPcg32 n) s = .next { s with
      inst := { s.inst with S := pair64 (ls.map (Ref.lcg Ref.pcgMul)) }
      out := s.out ++ image (ls.map fun l => Ref.pcg32Out l.a) }

/-- 42_pcg_lcg.md R202, R203: the output is one function of the old state of the lane alone, the spec's default function
where the parameter has its default. -/
def Obligations.GenPcg32FixedRotationStepsEveryLane : Prop :=
  (defaultParams.pcgXshOut = .standard ∧ defaultParams.pcgXslOut = .standard) ∧
  (∀ v : OutputFn, ∃ g : BitVec 64 → BitVec 32, (v = .standard → g = Ref.pcgXorshift) ∧
    ∀ (n : Lanes) (s : State) (ls : List (Ref.Two 64)), Ready s .pcg32Xsh n → s.par.pcgXshOut = v → s.inst.S = pair64 ls →
      exec (.genPcg32Xsh n) s = .next { s with
        inst := { s.inst with S := pair64 (ls.map (Ref.lcg Ref.pcgMul)) }
        out := s.out ++ image (ls.map fun l => g l.a) }) ∧
  (∀ v : OutputFn, ∃ g : BitVec 64 → BitVec 32, (v = .standard → g = Ref.pcgXslOut) ∧
    ∀ (n : Lanes) (s : State) (ls : List (Ref.Two 64)), Ready s .pcg32Xsl n → s.par.pcgXslOut = v → s.inst.S = pair64 ls →
      exec (.genPcg32Xsl n) s = .next { s with
        inst := { s.inst with S := pair64 (ls.map (Ref.lcg Ref.pcgMul)) }
        out := s.out ++ image (ls.map fun l => g l.a) })

/-- 42_pcg_lcg.md R204, R205, with the parameters LCG32_MUL, LCG16_MUL and LCG_OUT_HIGH, and their defaults. -/
def Obligations.GenLcgStepsEveryLane : Prop :=
  (defaultParams.lcg32Mul = 6364136223846793005 ∧ defaultParams.lcg16Mul = 747796405 ∧
    defaultParams.lcgOutHigh = false) ∧
  (∀ (n : Lanes) (s : State) (ls : List (Ref.Two 64)), Ready s .lcg32 n → s.inst.S = pair64 ls →
    exec (.genLcg32 n) s = .next { s with
      inst := { s.inst with S := pair64 (ls.map (Ref.lcg s.par.lcg32Mul)) }
      out := s.out ++ image (ls.map fun l =>
        (BitVec.ofNat 32 (if s.par.lcgOutHigh then l.a.toNat / 2 ^ 32 else l.a.toNat % 2 ^ 32))) }) ∧
  (∀ (n : Lanes) (s : State) (ls : List (Ref.Two 32)), Ready s .lcg16 n → s.inst.S = pair32 ls →
    exec (.genLcg16 n) s = .next { s with
      inst := { s.inst with S := pair32 (ls.map (Ref.lcg s.par.lcg16Mul)) }
      out := s.out ++ image (ls.map fun l =>
        (BitVec.ofNat 16 (if s.par.lcgOutHigh then l.a.toNat / 2 ^ 16 else l.a.toNat % 2 ^ 16))) })

/-- 43_jsf_lfsr_mwc_sfc_xsm.md R220, R221. -/
def Obligations.GenJsfStepsEveryLane : Prop :=
  (∀ (n : Lanes) (s : State) (ls : List (Ref.Four 32)), Ready s .jsf32 n → s.inst.S = quad32 ls →
    exec (.genJsf32 n) s = .next { s with
      inst := { s.inst with S := quad32 (ls.map (Ref.jsf 9 16)) }
      out := s.out ++ image (ls.map fun l => (Ref.jsf 9 16 l).d) }) ∧
  (∀ (n : Lanes) (s : State) (ls : List (Ref.Four 64)), Ready s .jsf64 n → s.inst.S = quad64 ls →
    exec (.genJsf64 n) s = .next { s with
      inst := { s.inst with S := quad64 (ls.map (Ref.jsf 39 11)) }
      out := s.out ++ image (ls.map fun l => (Ref.jsf 39 11 l).d) })

/-- 43_jsf_lfsr_mwc_sfc_xsm.md R222, R223, with the parameters LFSR113_TAB and LFSR258_TAB and their defaults (rows s1, s2,
k, s3); and the corner case: where k + s1 ≤ s2, a word at or below its threshold becomes 0. -/
def Obligations.GenLfsrStepsEveryLane : Prop :=
  (defaultParams.lfsr113Tab = #v[⟨6, 13, 1, 18⟩, ⟨2, 27, 3, 2⟩, ⟨13, 21, 4, 7⟩, ⟨3, 12, 7, 13⟩] ∧
    defaultParams.lfsr258Tab =
      #v[⟨1, 53, 1, 10⟩, ⟨24, 50, 9, 5⟩, ⟨3, 23, 12, 29⟩, ⟨5, 24, 17, 23⟩, ⟨3, 33, 23, 8⟩]) ∧
  (∀ (n : Lanes) (s : State) (ls : List (Ref.Four 32)), Ready s .lfsr113 n → s.inst.S = quad32 ls →
    exec (.genLfsr113 n) s = .next { s with
      inst := { s.inst with S := quad32 (ls.map (Ref.lfsr113 s.par.lfsr113Tab)) }
      out := s.out ++ image (ls.map fun l =>
        let w := Ref.lfsr113 s.par.lfsr113Tab l
        w.a ^^^ w.b ^^^ w.c ^^^ w.d) }) ∧
  (∀ (n : Lanes) (s : State) (ls : List (Ref.Five 64)), Ready s .lfsr258 n → s.inst.S = five64 ls →
    exec (.genLfsr258 n) s = .next { s with
      inst := { s.inst with S := five64 (ls.map (Ref.lfsr258 s.par.lfsr258Tab)) }
      out := s.out ++ image (ls.map fun l =>
        let w := Ref.lfsr258 s.par.lfsr258Tab l
        w.a ^^^ w.b ^^^ w.c ^^^ w.d ^^^ w.e) }) ∧
  (∀ (W : Nat) (r : LfsrRow W) (w : BitVec W), r.k.val + r.s1.val ≤ r.s2.val → w.toNat ≤ 2 ^ r.k.val - 1 →
    Ref.lfsrWord r w = 0)

/-- 43_jsf_lfsr_mwc_sfc_xsm.md R224, with the parameter MWC_FACTOR and its default: the sum cannot wrap, so it is stated on
integers. -/
def Obligations.GenMwcStepsEveryLane : Prop :=
  defaultParams.mwcFactor.toList =
    [4294963023, 3947008974, 4162943475, 2654432763, 3874257210, 2936881968, 4294957665, 2811536238] ∧
  (∀ (factor : BitVec 32) (x : BitVec 64), Ref.mwcNat factor x < 2 ^ 64) ∧
  (∀ (n : Lanes) (s : State) (xs : Vec 64), Ready s .mwc n → xs.length = n.count → s.inst.S = [.u64 xs] →
    let ys := List.zipWith (fun f x => BitVec.ofNat 64 (Ref.mwcNat f x)) s.par.mwcFactor.toList xs
    exec (.genMwc n) s = .next { s with
      inst := { s.inst with S := [.u64 ys] }
      out := s.out ++ image (ys.map Ref.mwcMix) })

/-- 43_jsf_lfsr_mwc_sfc_xsm.md R225, R226, R227. -/
def Obligations.GenSfcStepsEveryLane : Prop :=
  (∀ (n : Lanes) (s : State) (ls : List (Ref.Four 64)), Ready s .sfc64 n → s.inst.S = quad64 ls →
    exec (.genSfc64 n) s = .next { s with
      inst := { s.inst with S := quad64 (ls.map (Ref.sfc 24 11 3)) }
      out := s.out ++ image (ls.map Ref.sfcOut) }) ∧
  (∀ (n : Lanes) (s : State) (ls : List (Ref.Four 32)), Ready s .sfc32 n → s.inst.S = quad32 ls →
    exec (.genSfc32 n) s = .next { s with
      inst := { s.inst with S := quad32 (ls.map (Ref.sfc 21 9 3)) }
      out := s.out ++ image (ls.map Ref.sfcOut) }) ∧
  (∀ (n : Lanes) (s : State) (ls : List (Ref.Four 16)), Ready s .sfc16 n → s.inst.S = quad16 ls →
    exec (.genSfc16 n) s = .next { s with
      inst := { s.inst with S := quad16 (ls.map (Ref.sfc 6 5 3)) }
      out := s.out ++ image (ls.map Ref.sfcOut) })

/-- 43_jsf_lfsr_mwc_sfc_xsm.md R228, R229: one function of the lane's words alone, which advances words 0 and 1 as one quantity
by adding the model's own free addends, the carry out of word 0 entering word 1, as (a) to (d) have it. That the addends are
free functions of the lane's words is the model's form of the opaque parameter (log 9). -/
def Obligations.GenXsmStepsEveryLaneByOneFunction : Prop :=
  (∀ e : Fin 14, ∃ f : List (BitVec 32) → List (BitVec 32) × BitVec 32,
    Ref.XsmStep (3 + e.val) (Config.xsmAddLow 32) (Config.xsmAddHigh 32) f ∧
    ∀ (n : Lanes) (s : State) (ls : List (List (BitVec 32))), Ready s .xsm32 n → s.par.xsmExtra = e →
      (∀ l ∈ ls, l.length = 3 + e.val) → s.inst.S = words32 (3 + e.val) ls →
      exec (.genXsm32 n) s = .next { s with
        inst := { s.inst with S := words32 (3 + e.val) (ls.map fun l => (f l).1) }
        out := s.out ++ image (ls.map fun l => (f l).2) }) ∧
  (∀ e : Fin 14, ∃ f : List (BitVec 64) → List (BitVec 64) × BitVec 64,
    Ref.XsmStep (3 + e.val) (Config.xsmAddLow 64) (Config.xsmAddHigh 64) f ∧
    ∀ (n : Lanes) (s : State) (ls : List (List (BitVec 64))), Ready s .xsm64 n → s.par.xsmExtra = e →
      (∀ l ∈ ls, l.length = 3 + e.val) → s.inst.S = words64 (3 + e.val) ls →
      exec (.genXsm64 n) s = .next { s with
        inst := { s.inst with S := words64 (3 + e.val) (ls.map fun l => (f l).1) }
        out := s.out ++ image (ls.map fun l => (f l).2) })

/-- 44_chacha_aes_sse.md R261, R262, R263, R264, with the parameter CHACHA_DOUBLE_ROUNDS, 2 by default. -/
def Obligations.GenChachaAppendsTheBlockOfTheOldCounter : Prop :=
  defaultParams.chachaDoubleRounds = 2 ∧
  (∀ (s : State) (c : List (BitVec 32)), Ready s .chacha4 .x2 → c.length = 16 → s.inst.S = oneLane32 c →
    exec .genChacha4 s = .next { s with
      inst := { s.inst with S := oneLane32 (Ref.chachaNext c) }
      out := s.out ++ image (Ref.chachaBlock s.par.chachaDoubleRounds 16 12 8 7 c) }) ∧
  (∀ (s : State) (c : List (BitVec 32)), Ready s .chacha4f .x2 → c.length = 16 → s.inst.S = oneLane32 c →
    exec .genChacha4f s = .next { s with
      inst := { s.inst with S := oneLane32 (Ref.chachaNext c) }
      out := s.out ++ image (Ref.chachaBlock s.par.chachaDoubleRounds 16 16 8 8 c) })

/-- 44_chacha_aes_sse.md R267, R268, R269, with the parameters ARS_CTR_INC and ARS_PREWHITEN and their defaults: the
round keys are the key plus multiples of WEYL on each 64-bit lane, the key is unchanged and the counter goes up lanewise. -/
def Obligations.GenArsEncryptsTheOldCounter : Prop :=
  (defaultParams.arsCtrIncLow = 1 ∧ defaultParams.arsCtrIncHigh = 1 ∧ defaultParams.arsPrewhiten = true) ∧
  (∀ (s : State) (clo chi klo khi : BitVec 64), Ready s .ars5 .x2 →
    s.inst.S = [.u128 [Ref.join clo chi], .u128 [Ref.join klo khi]] →
    exec .genArs5 s = .next { s with
      inst := { s.inst with S :=
        [.u128 [Ref.join (clo + s.par.arsCtrIncLow) (chi + s.par.arsCtrIncHigh)], .u128 [Ref.join klo khi]] }
      out := s.out ++ image [arsReference s.par.arsPrewhiten 5 clo chi klo khi] }) ∧
  (∀ (s : State) (clo chi klo khi : BitVec 64), Ready s .ars7 .x2 →
    s.inst.S = [.u128 [Ref.join clo chi], .u128 [Ref.join klo khi]] →
    exec .genArs7 s = .next { s with
      inst := { s.inst with S :=
        [.u128 [Ref.join (clo + s.par.arsCtrIncLow) (chi + s.par.arsCtrIncHigh)], .u128 [Ref.join klo khi]] }
      out := s.out ++ image [arsReference s.par.arsPrewhiten 7 clo chi klo khi] })

/-- 44_chacha_aes_sse.md R270, with the parameters AESRAND_INC and AESRAND_KEY and the bytes of their default: the
buffered half is returned and stays in BUF; else a pair is made of the new counter. -/
def Obligations.GenAesrandAlternates : Prop :=
  (image [defaultParams.aesrandInc] =
      [0x01, 0x02, 0x03, 0x05, 0x07, 0x0b, 0x0d, 0x11, 0x13, 0x17, 0x1d, 0x1f, 0x25, 0x29, 0x2b, 0x2f] ∧
    defaultParams.aesrandKey = defaultParams.aesrandInc) ∧
  (∀ s : State, Ready s .aesrand .x2 → s.inst.bufv = true →
    exec .genAesrand s = .next { s with inst := { s.inst with bufv := false }, out := s.out ++ image s.inst.buf }) ∧
  (∀ (s : State) (ctr : BitVec 128), Ready s .aesrand .x2 → s.inst.bufv = false → s.inst.S = [.u128 [ctr]] →
    exec .genAesrand s = .next { s with
      inst := { S := [.u128 [add64x2 ctr s.par.aesrandInc]],
                buf := [aesDec (add64x2 ctr s.par.aesrandInc) s.par.aesrandKey], bufv := true }
      out := s.out ++ image [aesEnc (add64x2 ctr s.par.aesrandInc) s.par.aesrandKey] })

/-- 44_chacha_aes_sse.md R271, with the parameters SSE_MUL and SSE_ADD and their defaults: each of the four lanes has its own
constants. -/
def Obligations.GenSselcgStepsItsFourLanes : Prop :=
  (defaultParams.sseMul.toList = [214013, 17405, 214013, 69069] ∧
    defaultParams.sseAdd.toList = [2531011, 10395331, 13737667, 1]) ∧
  ∀ (s : State) (x0 x1 x2 x3 : BitVec 32), Ready s .sselcg .x2 → s.inst.S = [.u32 [x0, x1, x2, x3]] →
    let ys := [x0 * s.par.sseMul[0] + s.par.sseAdd[0], x1 * s.par.sseMul[1] + s.par.sseAdd[1],
      x2 * s.par.sseMul[2] + s.par.sseAdd[2], x3 * s.par.sseMul[3] + s.par.sseAdd[3]]
    exec .genSselcg s = .next { s with
      inst := { s.inst with S := [.u32 ys] }
      out := s.out ++ image ys }

/-- 20_memory.md R67, 47_control.md R364: GEN of any family appends the VB bytes of its table, keeps the shape of the
instance, and changes nothing but S, BUF, BUFV and OUT. -/
def Obligations.GenAppendsOneChunkAndKeepsTheShape : Prop :=
  ∀ (f : Fam) (n : Lanes) (s : State), Ready s f n → HoldsShape s f n →
    ∃ (j : Inst) (bytes : List Byte),
      exec (Instr.gen f n) s = .next { s with inst := j, out := s.out ++ bytes } ∧
      bytes.length = chunkSize f n ∧ HoldsShape { s with inst := j } f n

/-- 41_xorshift_xoshiro.md R178: a lane is degenerate after a step exactly where it was before it, and a degenerate lane
outputs zero bytes. -/
def Obligations.TheZeroLaneIsAbsorbingAndNoOtherLaneReachesIt : Prop :=
  ∀ (f : Fam) (n : Lanes) (s t : State), avoidsZero f = true → Ready s f n → HoldsShape s f n →
    exec (Instr.gen f n) s = .next t →
    ∀ j < n.count,
      (Degenerate t.inst.S j ↔ Degenerate s.inst.S j) ∧
      (Degenerate s.inst.S j → ∀ b < famWidth f / 8, t.out[s.out.length + j * (famWidth f / 8) + b]? = some 0)

/-! ## FILL -/

/-- 46_byte_adapter.md R350, R353: FILL appends the first LEN bytes that ⌈LEN / VB⌉ GENs append, and leaves everything else
as those GENs leave it. -/
def Obligations.FillIsTheFirstBytesOfSuccessiveGens : Prop :=
  ∀ (f : Fam) (n : Lanes) (s : State), Ready s f n → HoldsShape s f n →
    ∃ t : State,
      execTimes (Instr.gen f n) ((s.len.toNat + chunkSize f n - 1) / chunkSize f n) s = some t ∧
      exec (Instr.fill f n) s = .next { t with out := t.out.take (s.out.length + s.len.toNat) } ∧
      (t.out.take (s.out.length + s.len.toNat)).length = s.out.length + s.len.toNat ∧ s.out <+: t.out

/-- 46_byte_adapter.md R351 (a), (e): FILL of no bytes changes nothing, and two FILLs are one FILL of the sum where VB
divides the first length. -/
def Obligations.FillsOfWholeChunksCompose : Prop :=
  (∀ (f : Fam) (n : Lanes) (s : State), Ready s f n → s.len = 0 → exec (Instr.fill f n) s = .next s) ∧
  (∀ (f : Fam) (n : Lanes) (s : State) (L1 L2 : Word), Ready s f n → HoldsShape s f n →
    chunkSize f n ∣ L1.toNat → L1.toNat + L2.toNat < 2 ^ 32 →
    ∃ t u : State,
      exec (Instr.fill f n) { s with len := L1 } = .next t ∧
      exec (Instr.fill f n) { t with len := L2 } = .next u ∧
      exec (Instr.fill f n) { s with len := L1 + L2 } = .next { u with len := L1 + L2 })

/-! ## Seeding -/

/-- 45_seeding.md R300, R303, R310 to R316, R326: any number of draws with a degenerate lane, then one without: the command
ends in the instance those last bytes make, all else as before. BUF and BUFV, without value, are as the model has them
(log 2). -/
def Obligations.SeedRngRedrawsUntilNoLaneIsDegenerate : Prop :=
  ∀ (f : Fam) (n : Lanes) (s : State) (rejected : List (List LaneVec)) (S : List LaneVec) (rest : List EntAnswer),
    (avoidsZero f = true ∨ (f = .mwc ∧ s.par.mwcZeroAvoid = true)) → f.admits n = true → s.err = .none →
    (∀ R ∈ rejected, Shaped s.par f n R ∧ ∃ j < n.count, Degenerate R j) →
    Shaped s.par f n S → (∀ j < n.count, ¬ Degenerate S j) →
    s.ent = rejected.map (fun R => .ok (stateBytes R)) ++ .ok (stateBytes S) :: rest →
    exec (Instr.seedRng f n) s = .next { s with
      cfg := cfgOf f n, valid := true, inst := { Inst.empty with S := S }
      ent := rest, draws := s.draws + rejected.length + 1 }

/-- 45_seeding.md R300, R317 to R323, R327 to R337: the families that take their first draw, with the fixup their rule gives;
MWC is one of them where MWC_ZERO_AVOID is false (R326). BUF and BUFV, without value, are as the model has them (log 2). -/
def Obligations.SeedRngTakesTheFirstDrawWithItsFixup : Prop :=
  ∀ (f : Fam) (n : Lanes) (s : State) (bytes : List Byte) (S : List LaneVec) (rest : List EntAnswer),
    avoidsZero f = false → f ≠ .lfsr113 → f ≠ .lfsr258 → (f = .mwc → s.par.mwcZeroAvoid = false) →
    f.admits n = true → s.err = .none → SeedLoads s.par f n bytes S → s.ent = .ok bytes :: rest →
    exec (Instr.seedRng f n) s = .next { s with
      cfg := cfgOf f n, valid := true, inst := { Inst.empty with S := S }
      ent := rest, draws := s.draws + 1 }

/-- 45_seeding.md R324, R325, with the tables as parameters: one state draw; then each word in turn is drawn again, all its
lanes, while a lane of it is at or below its threshold; the other words are kept. BUF and BUFV, without value, are as the
model has them (log 2). -/
def Obligations.SeedRngLfsrRedrawsWordByWord : Prop :=
  (∀ (n : Lanes) (s : State) (h : List (Vec 32 × List (Vec 32) × Vec 32)) (rest : List EntAnswer), s.err = .none →
    List.Forall₂ (fun r w => WordHistory n.count (2 ^ r.k.val - 1) w.1 w.2.1 w.2.2) s.par.lfsr113Tab.toList h →
    s.ent = .ok (stateBytes (h.map fun w => .u32 w.1))
      :: (h.flatMap fun w => w.2.1.map fun v => EntAnswer.ok (image v)) ++ rest →
    exec (.seedRngLfsr113 n) s = .next { s with
      cfg := cfgOf .lfsr113 n, valid := true, inst := { Inst.empty with S := h.map fun w => .u32 w.2.2 }
      ent := rest, draws := s.draws + 1 + (h.map fun w => w.2.1.length).sum }) ∧
  (∀ (n : Lanes) (s : State) (h : List (Vec 64 × List (Vec 64) × Vec 64)) (rest : List EntAnswer), s.err = .none →
    List.Forall₂ (fun r w => WordHistory n.count (2 ^ r.k.val - 1) w.1 w.2.1 w.2.2) s.par.lfsr258Tab.toList h →
    s.ent = .ok (stateBytes (h.map fun w => .u64 w.1))
      :: (h.flatMap fun w => w.2.1.map fun v => EntAnswer.ok (image v)) ++ rest →
    exec (.seedRngLfsr258 n) s = .next { s with
      cfg := cfgOf .lfsr258 n, valid := true, inst := { Inst.empty with S := h.map fun w => .u64 w.2.2 }
      ent := rest, draws := s.draws + 1 + (h.map fun w => w.2.1.length).sum })

/-- 45_seeding.md R345: a draw that fails ends SEED_RNG and SEED_BLOCKS with E_ENTROPY and no instance, also after draws the
validator rejected; for the LFSR families at the state draw or at any draw of a word again, after words that are kept
(`kept`) and rejected draws of the word at hand (R324, R325). That S, BUF and BUFV, without value then, are emptied is the
model's (log 1, 2, 13). -/
def Obligations.AFailedDrawLeavesNoInstance : Prop :=
  (∀ (f : Fam) (n : Lanes) (s : State) (rejected : List (List Byte)) (code : BitVec 32) (rest : List EntAnswer),
    f.admits n = true → s.err = .none →
    ((f = .lfsr113 ∨ f = .lfsr258) → rejected = []) →
    (∀ b ∈ rejected, ∃ R, SeedLoads s.par f n b R ∧ ¬ Accepted s.par f n R) →
    s.ent = rejected.map .ok ++ .fail code :: rest →
    exec (Instr.seedRng f n) s = .next { s with
      cfg := ⟨0, 0⟩, valid := false, inst := Inst.empty
      err := .entropy, errcmd := encode (Instr.seedRng f n), entcode := code
      ent := rest, draws := s.draws + rejected.length + 1 }) ∧
  (∀ (n : Lanes) (s : State) (kept : List (Vec 32 × List (Vec 32) × Vec 32)) (row : LfsrRow 32) (v : Vec 32)
      (more later : List (Vec 32)) (code : BitVec 32) (rest : List EntAnswer), s.err = .none →
    List.Forall₂ (fun r w => WordHistory n.count (2 ^ r.k.val - 1) w.1 w.2.1 w.2.2)
      (s.par.lfsr113Tab.toList.take kept.length) kept →
    s.par.lfsr113Tab.toList[kept.length]? = some row → WordRejected n.count (2 ^ row.k.val - 1) v more →
    kept.length + 1 + later.length = s.par.lfsr113Tab.toList.length → (∀ u ∈ later, u.length = n.count) →
    s.ent = .ok (stateBytes ((kept.map (·.1) ++ v :: later).map .u32))
      :: (redraws kept ++ more.map (fun u => EntAnswer.ok (image u)) ++ .fail code :: rest) →
    exec (.seedRngLfsr113 n) s = .next { s with
      cfg := ⟨0, 0⟩, valid := false, inst := Inst.empty
      err := .entropy, errcmd := encode (.seedRngLfsr113 n), entcode := code
      ent := rest, draws := s.draws + 1 + redrawCount kept + more.length + 1 }) ∧
  (∀ (n : Lanes) (s : State) (kept : List (Vec 64 × List (Vec 64) × Vec 64)) (row : LfsrRow 64) (v : Vec 64)
      (more later : List (Vec 64)) (code : BitVec 32) (rest : List EntAnswer), s.err = .none →
    List.Forall₂ (fun r w => WordHistory n.count (2 ^ r.k.val - 1) w.1 w.2.1 w.2.2)
      (s.par.lfsr258Tab.toList.take kept.length) kept →
    s.par.lfsr258Tab.toList[kept.length]? = some row → WordRejected n.count (2 ^ row.k.val - 1) v more →
    kept.length + 1 + later.length = s.par.lfsr258Tab.toList.length → (∀ u ∈ later, u.length = n.count) →
    s.ent = .ok (stateBytes ((kept.map (·.1) ++ v :: later).map .u64))
      :: (redraws kept ++ more.map (fun u => EntAnswer.ok (image u)) ++ .fail code :: rest) →
    exec (.seedRngLfsr258 n) s = .next { s with
      cfg := ⟨0, 0⟩, valid := false, inst := Inst.empty
      err := .entropy, errcmd := encode (.seedRngLfsr258 n), entcode := code
      ent := rest, draws := s.draws + 1 + redrawCount kept + more.length + 1 }) ∧
  (∀ (f : Fam) (n : Lanes) (s : State) (m : Nat) (code : BitVec 32) (rest : List EntAnswer),
    (f = .xoroshiro128ss ∨ f = .xoshiro256ss) → s.err = .none →
    s.ent = List.replicate m (.ok (List.replicate (8 * famWords s.par f) 0)) ++ .fail code :: rest →
    exec (Instr.seedBlocks f n) s = .next { s with
      cfg := ⟨0, 0⟩, valid := false, inst := Inst.empty
      err := .entropy, errcmd := encode (Instr.seedBlocks f n), entcode := code
      ent := rest, draws := s.draws + m + 1 })

/-- 45_seeding.md R339, R340, R341, with the jump polynomials as parameters: any number of all-zero scalars, then one that is
not: lane j is the scalar jumped j times. BUF and BUFV, without value, are as the model has them (log 2). -/
def Obligations.SeedBlocksPlacesLanesAJumpApart : Prop :=
  (∀ (n : Lanes) (s : State) (m : Nat) (t : Ref.Two 64) (rest : List EntAnswer), s.err = .none → t ≠ ⟨0, 0⟩ →
    s.ent = List.replicate m (.ok (List.replicate 16 0)) ++ .ok (stateBytes (pair64 [t])) :: rest →
    exec (.seedBlocksXoroshiro128ss n) s = .next { s with
      cfg := cfgOf .xoroshiro128ss n, valid := true
      inst := { Inst.empty with S := pair64 ((List.range n.count).map fun j => (Ref.xoroshiroJump s.par)^[j] t) }
      ent := rest, draws := s.draws + m + 1 }) ∧
  (∀ (n : Lanes) (s : State) (m : Nat) (t : Ref.Four 64) (rest : List EntAnswer), s.err = .none → t ≠ ⟨0, 0, 0, 0⟩ →
    s.ent = List.replicate m (.ok (List.replicate 32 0)) ++ .ok (stateBytes (quad64 [t])) :: rest →
    exec (.seedBlocksXoshiro256ss n) s = .next { s with
      cfg := cfgOf .xoshiro256ss n, valid := true
      inst := { Inst.empty with S := quad64 ((List.range n.count).map fun j => (Ref.xoshiro256Jump s.par)^[j] t) }
      ent := rest, draws := s.draws + m + 1 })

/-- 45_seeding.md R342: block-jump seeding of every other family raises E_UNSUPPORTED; the instance stays and no entropy is
drawn. -/
def Obligations.SeedBlocksOfOtherFamiliesIsUnsupported : Prop :=
  ∀ (f : Fam) (n : Lanes) (s : State), f ≠ .xoroshiro128ss → f ≠ .xoshiro256ss → f.admits n = true → s.err = .none →
    exec (Instr.seedBlocks f n) s = .next { s with
      err := .unsupported, errcmd := encode (Instr.seedBlocks f n), entcode := 0 }

/-- 45_seeding.md R343: where the FIFO holds a seed image that the validator takes, SEED_FIXED makes the instance of it; the
FIFO is empty after it and no entropy is drawn. BUF and BUFV, without value, are as the model has them (log 2). -/
def Obligations.SeedFixedMakesTheInstanceOfItsBytes : Prop :=
  ∀ (f : Fam) (n : Lanes) (s : State) (S : List LaneVec), f.admits n = true → s.err = .none → f ∈ s.par.fixedSeed →
    SeedLoads s.par f n s.fifo S → Accepted s.par f n S →
    exec (Instr.seedFixed f n) s = .next { s with
      cfg := cfgOf f n, valid := true, inst := { Inst.empty with S := S }, fifo := [] }

/-- 45_seeding.md R343: the errors of SEED_FIXED in their order; the FIFO is emptied in every case. That S, BUF and BUFV,
without value after E_BAD_SEED, are emptied is the model's (log 1, 2, 13). -/
def Obligations.SeedFixedRefusesBadSeeds : Prop :=
  ∀ (f : Fam) (n : Lanes) (s : State), f.admits n = true → s.err = .none →
    (f ∉ s.par.fixedSeed → exec (Instr.seedFixed f n) s = .next { s with
      fifo := [], err := .unsupported, errcmd := encode (Instr.seedFixed f n), entcode := 0 }) ∧
    (f ∈ s.par.fixedSeed →
      (s.fifo.length ≠ seedLength s.par f n ∨ ∃ S, SeedLoads s.par f n s.fifo S ∧ ¬ Accepted s.par f n S) →
      exec (Instr.seedFixed f n) s = .next { s with
        cfg := ⟨0, 0⟩, valid := false, inst := Inst.empty, fifo := []
        err := .badSeed, errcmd := encode (Instr.seedFixed f n), entcode := 0 })

/-- 45_seeding.md R343: "the state SEED_FIXED leaves equals the state SEED_RNG leaves when its first draw returns those bytes
and passes": the same bytes in the FIFO and as the first answer. -/
def Obligations.SeedFixedAgreesWithSeedRng : Prop :=
  ∀ (f : Fam) (n : Lanes) (s t : State) (rest : List EntAnswer), f.admits n = true → s.err = .none →
    f ∈ s.par.fixedSeed → s.fifo.length = seedLength s.par f n → s.ent = .ok s.fifo :: rest →
    exec (Instr.seedRng f n) s = .next t → t.valid = true → t.draws = s.draws + 1 →
    exec (Instr.seedFixed f n) s = .next { t with fifo := [], ent := s.ent, draws := s.draws }

/-- 45_seeding.md R304, R346: whatever the entropy source answers, listed or free, an instance that SEED_RNG or SEED_FIXED
leaves is valid, has the shape of its family and is the one commanded. The side condition on the bad lists is R322's. -/
def Obligations.SeedingLeavesAValidState : Prop :=
  ∀ (f : Fam) (n : Lanes) (s t : State), f.admits n = true → s.err = .none →
    BadListOk s.par.jsf32Bad → BadListOk s.par.jsf64Bad →
    (exec (Instr.seedRng f n) s = .next t ∨ exec (Instr.seedFixed f n) s = .next t) →
    t.err = .none → t.valid = true →
    t.cfg = cfgOf f n ∧ Shaped t.par f n t.inst.S ∧ ValidState t.par f n t.inst.S ∧ t.inst.bufv = false

/-- 45_seeding.md R346: every valid state of a family is one that SEED_RNG can leave, for some answer of the entropy
source. The answer is the first of the model's list (log 4); BUF and BUFV, without value, are as the model has them (log 2). -/
def Obligations.SeedingReachesEveryValidState : Prop :=
  ∀ (f : Fam) (n : Lanes) (s : State) (S : List LaneVec), f.admits n = true → s.err = .none →
    Shaped s.par f n S → ValidState s.par f n S →
    ∃ bytes : List Byte, ∀ rest : List EntAnswer,
      exec (Instr.seedRng f n) { s with ent := .ok bytes :: rest } = .next { s with
        cfg := cfgOf f n, valid := true, inst := { Inst.empty with S := S }
        ent := rest, draws := s.draws + 1 }

/-- 45_seeding.md R346, 00_scope.md R3: a SEED_RNG of any family and a SEED_BLOCKS of the two that have it is one transition,
which ends in the instance commanded (valid, for SEED_RNG, under R322's side condition), or in E_ENTROPY and no instance, or
never; all but CFG, VALID, the instance, the error registers and the answers left is as before. That a seeding never ends only
where no listed answer is left, and that it then holds the machine for ever, is the model's form of the third (log 5); that S, BUF and BUFV, without
value in the last two, are emptied is the model's (log 1, 2, 13). -/
def Obligations.ASeedingIsOneTransitionOrNeverEnds : Prop :=
  (∀ (i : Instr) (f : Fam) (n : Lanes) (s : State), f.admits n = true → s.err = .none → s.pend = none →
    (i = Instr.seedRng f n ∨ (i = Instr.seedBlocks f n ∧ (f = .xoroshiro128ss ∨ f = .xoshiro256ss))) →
    ∃ t, exec i s = .next t ∧
      t = { s with cfg := t.cfg, valid := t.valid, inst := t.inst, err := t.err, errcmd := t.errcmd,
                   entcode := t.entcode, ent := t.ent, draws := t.draws, pend := t.pend } ∧
      ((t.pend = none ∧ t.err = .none ∧ t.errcmd = s.errcmd ∧ t.entcode = s.entcode ∧ t.valid = true ∧
          t.cfg = cfgOf f n ∧ Shaped t.par f n t.inst.S ∧ t.inst.bufv = false ∧
          (i = Instr.seedRng f n → BadListOk s.par.jsf32Bad → BadListOk s.par.jsf64Bad → ValidState t.par f n t.inst.S)) ∨
        (t.pend = none ∧ t.err = .entropy ∧ t.errcmd = encode i ∧ t.valid = false ∧ t.cfg = ⟨0, 0⟩ ∧ t.inst = Inst.empty) ∨
        (t.pend = some i ∧ t.err = .none ∧ t.valid = false ∧ t.cfg = ⟨0, 0⟩ ∧ t.inst = Inst.empty ∧ t.ent = []))) ∧
  ∀ s : State, s.pend ≠ none → step s = .next s

/-! ## The machine as a whole -/

/-- The invariant of Safety.lean (10_state.md R21, R22, R25, R28, R33; 20_memory.md R68) is kept by every step, from every
state that meets it. -/
def Obligations.EveryStepKeepsTheInvariant : Prop :=
  ∀ s t : State, Inv s → step s = .next t → Inv t

/-- The state after reset meets the invariant (10_state.md R37). -/
def Obligations.ResetMeetsTheInvariant : Prop := Inv State.reset

/-- 20_memory.md R65, R66: OUT is append-only, but for the hardware reset, which restarts the history (70_reset_and_hazards.md
R410), and no command but GEN and FILL appends. -/
def Obligations.OutOnlyGrowsAndOnlyByGenAndFill : Prop :=
  (∀ s t : State, step s = .next t → (∀ rest, ¬ Performs s .reset rest) → s.out <+: t.out) ∧
  (∀ (i : Instr) (s t : State), exec i s = .next t → (∀ f n, i ≠ Instr.gen f n ∧ i ≠ Instr.fill f n) → t.out = s.out)

/-- 70_reset_and_hazards.md R413: who sets VALID, who clears it, and that nothing of the old instance survives a second
seeding. -/
def Obligations.TheInstanceHasItsLifecycle : Prop :=
  (∀ (i : Instr) (s t : State), exec i s = .next t →
    (s.valid = false → t.valid = true → ∃ f n,
      (i = Instr.seedRng f n ∨ i = Instr.seedBlocks f n ∨ i = Instr.seedFixed f n) ∧ t.cfg = cfgOf f n) ∧
    (s.valid = true → t.valid = false → i = .reset ∨ ∃ f n,
      i = Instr.seedRng f n ∨
      (i = Instr.seedBlocks f n ∧ (f = .xoroshiro128ss ∨ f = .xoshiro256ss)) ∨
      (i = Instr.seedFixed f n ∧ f ∈ s.par.fixedSeed)) ∧
    ((∃ f n, i = Instr.gen f n ∨ i = Instr.fill f n) → t.valid = s.valid ∧ t.cfg = s.cfg)) ∧
  (∀ (f : Fam) (n : Lanes) (s : State) (c : Cfg) (v : Bool) (j : Inst), f.admits n = true → s.err = .none →
    exec (Instr.seedRng f n) { s with cfg := c, valid := v, inst := j } = exec (Instr.seedRng f n) s ∧
    ((f = .xoroshiro128ss ∨ f = .xoshiro256ss) →
      exec (Instr.seedBlocks f n) { s with cfg := c, valid := v, inst := j } = exec (Instr.seedBlocks f n) s) ∧
    (f ∈ s.par.fixedSeed →
      exec (Instr.seedFixed f n) { s with cfg := c, valid := v, inst := j } = exec (Instr.seedFixed f n) s))

/-! ## The datapath -/

/-- 40_lane_vector.md R120 to R128, R145: a result has the operands' N lanes, lane j of it is the integer its rule gives, and
depends on lane j of the operands alone; the shifts for a distance below the width. -/
def Obligations.DatapathArithmeticIsLaneByLane : Prop :=
  (∀ (W : Nat) (a b : Vec W), a.length = b.length →
    (vadd a b).length = a.length ∧ (vsub a b).length = a.length ∧ (vmul a b).length = a.length ∧
    (vxor a b).length = a.length ∧ (vand a b).length = a.length ∧ (vor a b).length = a.length ∧
    (vnot a).length = a.length ∧
    ∀ (k : Nat) (h : k < W), (vshl a k h).length = a.length ∧ (vshr a k h).length = a.length) ∧
  ∀ (W : Nat) (a b : Vec W) (j : Nat) (x y : BitVec W), a[j]? = some x → b[j]? = some y →
    (∃ z, (vadd a b)[j]? = some z ∧ z.toNat = (x.toNat + y.toNat) % 2 ^ W) ∧
    (∃ z, (vsub a b)[j]? = some z ∧
      z.toNat = if y.toNat ≤ x.toNat then x.toNat - y.toNat else 2 ^ W + x.toNat - y.toNat) ∧
    (∃ z, (vmul a b)[j]? = some z ∧ z.toNat = x.toNat * y.toNat % 2 ^ W) ∧
    (∃ z, (vxor a b)[j]? = some z ∧ ∀ i, z.getLsbD i = (x.getLsbD i ^^ y.getLsbD i)) ∧
    (∃ z, (vand a b)[j]? = some z ∧ ∀ i, z.getLsbD i = (x.getLsbD i && y.getLsbD i)) ∧
    (∃ z, (vor a b)[j]? = some z ∧ ∀ i, z.getLsbD i = (x.getLsbD i || y.getLsbD i)) ∧
    (∃ z, (vnot a)[j]? = some z ∧ z.toNat = 2 ^ W - 1 - x.toNat) ∧
    (∀ (k : Nat) (h : k < W),
      (∃ z, (vshl a k h)[j]? = some z ∧ z.toNat = x.toNat * 2 ^ k % 2 ^ W) ∧
      (∃ z, (vshr a k h)[j]? = some z ∧ z.toNat = x.toNat / 2 ^ k))

/-- 40_lane_vector.md R129, R130, R131: where each bit of a lane goes, at any distance, and by a per-lane amount. -/
def Obligations.RotatesMoveEveryBitOfALane : Prop :=
  (∀ (W V k : Nat) (a : Vec W) (r : Vec V), a.length = r.length →
    (vrotl a k).length = a.length ∧ (vrotr a k).length = a.length ∧ (vrotrv a r).length = a.length) ∧
  ∀ (W : Nat) (a : Vec W) (j : Nat) (x : BitVec W), a[j]? = some x →
    (∀ k, ∃ z, (vrotl a k)[j]? = some z ∧ ∀ i < W, z.getLsbD ((i + k) % W) = x.getLsbD i) ∧
    (∀ k, ∃ z, (vrotr a k)[j]? = some z ∧ ∀ i < W, z.getLsbD i = x.getLsbD ((i + k) % W)) ∧
    (∀ (V : Nat) (r : Vec V) (d : BitVec V), r[j]? = some d →
      ∃ z, (vrotrv a r)[j]? = some z ∧ ∀ i < W, z.getLsbD i = x.getLsbD ((i + d.toNat) % W))

/-- 40_lane_vector.md R132 to R136: the six unsigned compares, the selection, the reductions and the mask logic. -/
def Obligations.MasksCompareSelectAndReduce : Prop :=
  (∀ (W : Nat) (m m' : Mask) (a b : Vec W), a.length = b.length → m.length = b.length → m'.length = b.length →
    (veq a b).length = b.length ∧ (vne a b).length = b.length ∧ (vlt a b).length = b.length ∧
    (vle a b).length = b.length ∧ (vgt a b).length = b.length ∧ (vge a b).length = b.length ∧
    (vselect m a b).length = b.length ∧ (maskAnd m m').length = b.length ∧ (maskOr m m').length = b.length ∧
    (maskNot m).length = b.length) ∧
  (∀ (W : Nat) (a b : Vec W) (j : Nat) (x y : BitVec W), a[j]? = some x → b[j]? = some y →
    (veq a b)[j]? = some (decide (x.toNat = y.toNat)) ∧ (vne a b)[j]? = some (decide (x.toNat ≠ y.toNat)) ∧
    (vlt a b)[j]? = some (decide (x.toNat < y.toNat)) ∧ (vle a b)[j]? = some (decide (x.toNat ≤ y.toNat)) ∧
    (vgt a b)[j]? = some (decide (y.toNat < x.toNat)) ∧ (vge a b)[j]? = some (decide (y.toNat ≤ x.toNat)) ∧
    (∀ (m : Mask) (c : Bool), m[j]? = some c → (vselect m a b)[j]? = some (if c then x else y))) ∧
  (∀ m : Mask, (maskAny m = true ↔ ∃ j : Nat, m[j]? = some true) ∧ (maskAll m = true ↔ ∀ j < m.length, m[j]? = some true) ∧
    maskAll m = !maskAny (maskNot m)) ∧
  (∀ (m1 m2 : Mask) (j : Nat) (c1 c2 : Bool), m1[j]? = some c1 → m2[j]? = some c2 →
    (maskAnd m1 m2)[j]? = some (c1 && c2) ∧ (maskOr m1 m2)[j]? = some (c1 || c2) ∧ (maskNot m1)[j]? = some (!c1))

/-- 40_lane_vector.md R137 to R141: splat, trunc, zext, the widening multiply and the two 64-bit additions. -/
def Obligations.ShapeChangingOperationsGiveTheirIntegers : Prop :=
  (∀ (W M : Nat) (a : Vec W) (c : BitVec M),
    (vsplat c a).length = a.length ∧ (vtrunc M a).length = a.length ∧ (vzext M a).length = a.length) ∧
  (∀ a b : Vec 64, a.length = b.length → (vwmul32 a b).length = a.length) ∧
  (∀ (W M : Nat) (a : Vec W) (c : BitVec M) (j : Nat) (x : BitVec W), a[j]? = some x →
    (vsplat c a)[j]? = some c ∧
    (M < W → ∃ z : BitVec M, (vtrunc M a)[j]? = some z ∧ z.toNat = x.toNat % 2 ^ M) ∧
    (W < M → ∃ z : BitVec M, (vzext M a)[j]? = some z ∧ z.toNat = x.toNat)) ∧
  (∀ (a b : Vec 64) (j : Nat) (x y : BitVec 64), a[j]? = some x → b[j]? = some y →
    ∃ z, (vwmul32 a b)[j]? = some z ∧ z.toNat = (x.toNat % 2 ^ 32) * (y.toNat % 2 ^ 32)) ∧
  (∀ a b : BitVec 128,
    (add64x2 a b).toNat % 2 ^ 64 = (a.toNat + b.toNat) % 2 ^ 64 ∧
    (add64x2 a b).toNat / 2 ^ 64 = (a.toNat / 2 ^ 64 + b.toNat / 2 ^ 64) % 2 ^ 64)

/-- 20_memory.md R63: the place of every byte of a lane vector in its image, and `le`, the inverse of `image`. -/
def Obligations.ByteImagesAreLittleEndianLaneByLane : Prop :=
  ∀ W : Nat, 0 < W → W % 8 = 0 →
    (∀ v : Vec W, (image v).length = v.length * (W / 8) ∧ le W v.length (image v) = v) ∧
    (∀ (v : Vec W) (j i : Nat) (x : BitVec W), v[j]? = some x → i < W / 8 →
      (image v)[j * (W / 8) + i]? = some (x.extractLsb' (8 * i) 8)) ∧
    (∀ (N : Nat) (bytes : List Byte), bytes.length = N * (W / 8) →
      (le W N bytes).length = N ∧ image (le W N bytes) = bytes)

/-- 40_lane_vector.md R147: the S-box is the inverse in GF(2^8) followed by the affine map, and INV_SBOX undoes it. -/
def Obligations.TheSboxIsTheAffineMapOfTheInverse : Prop :=
  (∀ x : Byte, x ≠ 0 → Ref.gfMul x (Ref.gfInv x) = 1) ∧ Ref.gfInv 0 = 0 ∧
  (∀ x : Byte, sbox x = Ref.affine (Ref.gfInv x)) ∧
  (∀ x : Byte, invSbox (sbox x) = x) ∧ (∀ x : Byte, sbox (invSbox x) = x)

/-- 40_lane_vector.md R142, R143, R144, R148: every entry of the block after an AES round, from the entries before it. -/
def Obligations.AesRoundsActOnTheEntriesOfTheBlock : Prop :=
  ∀ (v k : BitVec 128) (c : Nat), c < 4 →
    (let a (r : Nat) := sbox (Ref.entry v r ((c + r) % 4))
     (∀ r < 4, Ref.entry (aesEncLast v k) r c = a r ^^^ Ref.entry k r c) ∧
     Ref.entry (aesEnc v k) 0 c = (Ref.gfMul 2 (a 0) ^^^ Ref.gfMul 3 (a 1) ^^^ a 2 ^^^ a 3) ^^^ Ref.entry k 0 c ∧
     Ref.entry (aesEnc v k) 1 c = (a 0 ^^^ Ref.gfMul 2 (a 1) ^^^ Ref.gfMul 3 (a 2) ^^^ a 3) ^^^ Ref.entry k 1 c ∧
     Ref.entry (aesEnc v k) 2 c = (a 0 ^^^ a 1 ^^^ Ref.gfMul 2 (a 2) ^^^ Ref.gfMul 3 (a 3)) ^^^ Ref.entry k 2 c ∧
     Ref.entry (aesEnc v k) 3 c = (Ref.gfMul 3 (a 0) ^^^ a 1 ^^^ a 2 ^^^ Ref.gfMul 2 (a 3)) ^^^ Ref.entry k 3 c) ∧
    (let a (r : Nat) := invSbox (Ref.entry v r ((c + 4 - r) % 4))
     Ref.entry (aesDec v k) 0 c =
       (Ref.gfMul 14 (a 0) ^^^ Ref.gfMul 11 (a 1) ^^^ Ref.gfMul 13 (a 2) ^^^ Ref.gfMul 9 (a 3)) ^^^ Ref.entry k 0 c ∧
     Ref.entry (aesDec v k) 1 c =
       (Ref.gfMul 9 (a 0) ^^^ Ref.gfMul 14 (a 1) ^^^ Ref.gfMul 11 (a 2) ^^^ Ref.gfMul 13 (a 3)) ^^^ Ref.entry k 1 c ∧
     Ref.entry (aesDec v k) 2 c =
       (Ref.gfMul 13 (a 0) ^^^ Ref.gfMul 9 (a 1) ^^^ Ref.gfMul 14 (a 2) ^^^ Ref.gfMul 11 (a 3)) ^^^ Ref.entry k 2 c ∧
     Ref.entry (aesDec v k) 3 c =
       (Ref.gfMul 11 (a 0) ^^^ Ref.gfMul 13 (a 1) ^^^ Ref.gfMul 9 (a 2) ^^^ Ref.gfMul 14 (a 3)) ^^^ Ref.entry k 3 c)
end

