-- ==== Sys2Proof/Laws/State.lean ====
section
/-! SUPPORT. One lemma per field per update of State, each true by rfl, so that no later proof unfolds a record update. -/

namespace Sys2Proof.Machine

/-! ## Raising an error (60_exceptions.md R383) -/

@[simp] theorem State.raise_par (s : State) (e : ErrCode) (cmd : Word) (info : BitVec 32) : (s.raise e cmd info).par = s.par := rfl
@[simp] theorem State.raise_cfg (s : State) (e : ErrCode) (cmd : Word) (info : BitVec 32) : (s.raise e cmd info).cfg = s.cfg := rfl
@[simp] theorem State.raise_valid (s : State) (e : ErrCode) (cmd : Word) (info : BitVec 32) : (s.raise e cmd info).valid = s.valid := rfl
@[simp] theorem State.raise_inst (s : State) (e : ErrCode) (cmd : Word) (info : BitVec 32) : (s.raise e cmd info).inst = s.inst := rfl
@[simp] theorem State.raise_err (s : State) (e : ErrCode) (cmd : Word) (info : BitVec 32) : (s.raise e cmd info).err = e := rfl
@[simp] theorem State.raise_errcmd (s : State) (e : ErrCode) (cmd : Word) (info : BitVec 32) : (s.raise e cmd info).errcmd = cmd := rfl
@[simp] theorem State.raise_entcode (s : State) (e : ErrCode) (cmd : Word) (info : BitVec 32) : (s.raise e cmd info).entcode = if e = .entropy then info else 0 := rfl
@[simp] theorem State.raise_len (s : State) (e : ErrCode) (cmd : Word) (info : BitVec 32) : (s.raise e cmd info).len = s.len := rfl
@[simp] theorem State.raise_fifo (s : State) (e : ErrCode) (cmd : Word) (info : BitVec 32) : (s.raise e cmd info).fifo = s.fifo := rfl
@[simp] theorem State.raise_out (s : State) (e : ErrCode) (cmd : Word) (info : BitVec 32) : (s.raise e cmd info).out = s.out := rfl
@[simp] theorem State.raise_host (s : State) (e : ErrCode) (cmd : Word) (info : BitVec 32) : (s.raise e cmd info).host = s.host := rfl
@[simp] theorem State.raise_ent (s : State) (e : ErrCode) (cmd : Word) (info : BitVec 32) : (s.raise e cmd info).ent = s.ent := rfl
@[simp] theorem State.raise_draws (s : State) (e : ErrCode) (cmd : Word) (info : BitVec 32) : (s.raise e cmd info).draws = s.draws := rfl
@[simp] theorem State.raise_pend (s : State) (e : ErrCode) (cmd : Word) (info : BitVec 32) : (s.raise e cmd info).pend = s.pend := rfl
@[simp] theorem State.raise_rdata (s : State) (e : ErrCode) (cmd : Word) (info : BitVec 32) : (s.raise e cmd info).rdata = s.rdata := rfl

/-! ## The return from an error (47_control.md R362) -/

@[simp] theorem State.clearError_par (s : State) : s.clearError.par = s.par := rfl
@[simp] theorem State.clearError_cfg (s : State) : s.clearError.cfg = s.cfg := rfl
@[simp] theorem State.clearError_valid (s : State) : s.clearError.valid = s.valid := rfl
@[simp] theorem State.clearError_inst (s : State) : s.clearError.inst = s.inst := rfl
@[simp] theorem State.clearError_err (s : State) : s.clearError.err = .none := rfl
@[simp] theorem State.clearError_errcmd (s : State) : s.clearError.errcmd = 0 := rfl
@[simp] theorem State.clearError_entcode (s : State) : s.clearError.entcode = 0 := rfl
@[simp] theorem State.clearError_len (s : State) : s.clearError.len = s.len := rfl
@[simp] theorem State.clearError_fifo (s : State) : s.clearError.fifo = s.fifo := rfl
@[simp] theorem State.clearError_out (s : State) : s.clearError.out = s.out := rfl
@[simp] theorem State.clearError_host (s : State) : s.clearError.host = s.host := rfl
@[simp] theorem State.clearError_ent (s : State) : s.clearError.ent = s.ent := rfl
@[simp] theorem State.clearError_draws (s : State) : s.clearError.draws = s.draws := rfl
@[simp] theorem State.clearError_pend (s : State) : s.clearError.pend = s.pend := rfl
@[simp] theorem State.clearError_rdata (s : State) : s.clearError.rdata = s.rdata := rfl

/-! ## Dropping the instance (45_seeding.md R300) -/

@[simp] theorem State.dropInstance_par (s : State) : s.dropInstance.par = s.par := rfl
@[simp] theorem State.dropInstance_cfg (s : State) : s.dropInstance.cfg = ⟨0, 0⟩ := rfl
@[simp] theorem State.dropInstance_valid (s : State) : s.dropInstance.valid = false := rfl
@[simp] theorem State.dropInstance_inst (s : State) : s.dropInstance.inst = Inst.empty := rfl
@[simp] theorem State.dropInstance_err (s : State) : s.dropInstance.err = s.err := rfl
@[simp] theorem State.dropInstance_errcmd (s : State) : s.dropInstance.errcmd = s.errcmd := rfl
@[simp] theorem State.dropInstance_entcode (s : State) : s.dropInstance.entcode = s.entcode := rfl
@[simp] theorem State.dropInstance_len (s : State) : s.dropInstance.len = s.len := rfl
@[simp] theorem State.dropInstance_fifo (s : State) : s.dropInstance.fifo = s.fifo := rfl
@[simp] theorem State.dropInstance_out (s : State) : s.dropInstance.out = s.out := rfl
@[simp] theorem State.dropInstance_host (s : State) : s.dropInstance.host = s.host := rfl
@[simp] theorem State.dropInstance_ent (s : State) : s.dropInstance.ent = s.ent := rfl
@[simp] theorem State.dropInstance_draws (s : State) : s.dropInstance.draws = s.draws := rfl
@[simp] theorem State.dropInstance_pend (s : State) : s.dropInstance.pend = s.pend := rfl
@[simp] theorem State.dropInstance_rdata (s : State) : s.dropInstance.rdata = s.rdata := rfl

/-! ## The end of a seeding (45_seeding.md R300) -/

@[simp] theorem State.install_par (s : State) (c : Cfg) (S : List LaneVec) : (s.install c S).par = s.par := rfl
@[simp] theorem State.install_cfg (s : State) (c : Cfg) (S : List LaneVec) : (s.install c S).cfg = c := rfl
@[simp] theorem State.install_valid (s : State) (c : Cfg) (S : List LaneVec) : (s.install c S).valid = true := rfl
@[simp] theorem State.install_inst (s : State) (c : Cfg) (S : List LaneVec) : (s.install c S).inst = ⟨S, [], false⟩ := rfl
@[simp] theorem State.install_err (s : State) (c : Cfg) (S : List LaneVec) : (s.install c S).err = s.err := rfl
@[simp] theorem State.install_errcmd (s : State) (c : Cfg) (S : List LaneVec) : (s.install c S).errcmd = s.errcmd := rfl
@[simp] theorem State.install_entcode (s : State) (c : Cfg) (S : List LaneVec) : (s.install c S).entcode = s.entcode := rfl
@[simp] theorem State.install_len (s : State) (c : Cfg) (S : List LaneVec) : (s.install c S).len = s.len := rfl
@[simp] theorem State.install_fifo (s : State) (c : Cfg) (S : List LaneVec) : (s.install c S).fifo = s.fifo := rfl
@[simp] theorem State.install_out (s : State) (c : Cfg) (S : List LaneVec) : (s.install c S).out = s.out := rfl
@[simp] theorem State.install_host (s : State) (c : Cfg) (S : List LaneVec) : (s.install c S).host = s.host := rfl
@[simp] theorem State.install_ent (s : State) (c : Cfg) (S : List LaneVec) : (s.install c S).ent = s.ent := rfl
@[simp] theorem State.install_draws (s : State) (c : Cfg) (S : List LaneVec) : (s.install c S).draws = s.draws := rfl
@[simp] theorem State.install_pend (s : State) (c : Cfg) (S : List LaneVec) : (s.install c S).pend = s.pend := rfl
@[simp] theorem State.install_rdata (s : State) (c : Cfg) (S : List LaneVec) : (s.install c S).rdata = s.rdata := rfl

/-! ## An append to OUT (20_memory.md R66) -/

@[simp] theorem State.outAppend_par (s : State) (b : List Byte) : (s.outAppend b).par = s.par := rfl
@[simp] theorem State.outAppend_cfg (s : State) (b : List Byte) : (s.outAppend b).cfg = s.cfg := rfl
@[simp] theorem State.outAppend_valid (s : State) (b : List Byte) : (s.outAppend b).valid = s.valid := rfl
@[simp] theorem State.outAppend_inst (s : State) (b : List Byte) : (s.outAppend b).inst = s.inst := rfl
@[simp] theorem State.outAppend_err (s : State) (b : List Byte) : (s.outAppend b).err = s.err := rfl
@[simp] theorem State.outAppend_errcmd (s : State) (b : List Byte) : (s.outAppend b).errcmd = s.errcmd := rfl
@[simp] theorem State.outAppend_entcode (s : State) (b : List Byte) : (s.outAppend b).entcode = s.entcode := rfl
@[simp] theorem State.outAppend_len (s : State) (b : List Byte) : (s.outAppend b).len = s.len := rfl
@[simp] theorem State.outAppend_fifo (s : State) (b : List Byte) : (s.outAppend b).fifo = s.fifo := rfl
@[simp] theorem State.outAppend_out (s : State) (b : List Byte) : (s.outAppend b).out = s.out ++ b := rfl
@[simp] theorem State.outAppend_host (s : State) (b : List Byte) : (s.outAppend b).host = s.host := rfl
@[simp] theorem State.outAppend_ent (s : State) (b : List Byte) : (s.outAppend b).ent = s.ent := rfl
@[simp] theorem State.outAppend_draws (s : State) (b : List Byte) : (s.outAppend b).draws = s.draws := rfl
@[simp] theorem State.outAppend_pend (s : State) (b : List Byte) : (s.outAppend b).pend = s.pend := rfl
@[simp] theorem State.outAppend_rdata (s : State) (b : List Byte) : (s.outAppend b).rdata = s.rdata := rfl

/-! ## The RESET command (47_control.md R363) -/

@[simp] theorem State.softReset_par (s : State) : s.softReset.par = s.par := rfl
@[simp] theorem State.softReset_cfg (s : State) : s.softReset.cfg = ⟨0, 0⟩ := rfl
@[simp] theorem State.softReset_valid (s : State) : s.softReset.valid = false := rfl
@[simp] theorem State.softReset_inst (s : State) : s.softReset.inst = Inst.empty := rfl
@[simp] theorem State.softReset_err (s : State) : s.softReset.err = .none := rfl
@[simp] theorem State.softReset_errcmd (s : State) : s.softReset.errcmd = 0 := rfl
@[simp] theorem State.softReset_entcode (s : State) : s.softReset.entcode = 0 := rfl
@[simp] theorem State.softReset_len (s : State) : s.softReset.len = 0 := rfl
@[simp] theorem State.softReset_fifo (s : State) : s.softReset.fifo = [] := rfl
@[simp] theorem State.softReset_out (s : State) : s.softReset.out = s.out := rfl
@[simp] theorem State.softReset_host (s : State) : s.softReset.host = s.host := rfl
@[simp] theorem State.softReset_ent (s : State) : s.softReset.ent = s.ent := rfl
@[simp] theorem State.softReset_draws (s : State) : s.softReset.draws = s.draws := rfl
@[simp] theorem State.softReset_pend (s : State) : s.softReset.pend = s.pend := rfl
@[simp] theorem State.softReset_rdata (s : State) : s.softReset.rdata = s.rdata := rfl

/-! ## The hardware reset (70_reset_and_hazards.md R410) -/

@[simp] theorem State.hardReset_par (s : State) : s.hardReset.par = s.par := rfl
@[simp] theorem State.hardReset_cfg (s : State) : s.hardReset.cfg = ⟨0, 0⟩ := rfl
@[simp] theorem State.hardReset_valid (s : State) : s.hardReset.valid = false := rfl
@[simp] theorem State.hardReset_inst (s : State) : s.hardReset.inst = Inst.empty := rfl
@[simp] theorem State.hardReset_err (s : State) : s.hardReset.err = .none := rfl
@[simp] theorem State.hardReset_errcmd (s : State) : s.hardReset.errcmd = 0 := rfl
@[simp] theorem State.hardReset_entcode (s : State) : s.hardReset.entcode = 0 := rfl
@[simp] theorem State.hardReset_len (s : State) : s.hardReset.len = 0 := rfl
@[simp] theorem State.hardReset_fifo (s : State) : s.hardReset.fifo = [] := rfl
@[simp] theorem State.hardReset_out (s : State) : s.hardReset.out = [] := rfl
@[simp] theorem State.hardReset_host (s : State) : s.hardReset.host = s.host := rfl
@[simp] theorem State.hardReset_ent (s : State) : s.hardReset.ent = s.ent := rfl
@[simp] theorem State.hardReset_draws (s : State) : s.hardReset.draws = s.draws := rfl
@[simp] theorem State.hardReset_pend (s : State) : s.hardReset.pend = s.pend := rfl
@[simp] theorem State.hardReset_rdata (s : State) : s.hardReset.rdata = s.rdata := rfl

/-! ## Emptying the seed FIFO (20_memory.md R68) -/

@[simp] theorem State.seedPopAll_par (s : State) : s.seedPopAll.2.par = s.par := rfl
@[simp] theorem State.seedPopAll_cfg (s : State) : s.seedPopAll.2.cfg = s.cfg := rfl
@[simp] theorem State.seedPopAll_valid (s : State) : s.seedPopAll.2.valid = s.valid := rfl
@[simp] theorem State.seedPopAll_inst (s : State) : s.seedPopAll.2.inst = s.inst := rfl
@[simp] theorem State.seedPopAll_err (s : State) : s.seedPopAll.2.err = s.err := rfl
@[simp] theorem State.seedPopAll_errcmd (s : State) : s.seedPopAll.2.errcmd = s.errcmd := rfl
@[simp] theorem State.seedPopAll_entcode (s : State) : s.seedPopAll.2.entcode = s.entcode := rfl
@[simp] theorem State.seedPopAll_len (s : State) : s.seedPopAll.2.len = s.len := rfl
@[simp] theorem State.seedPopAll_fifo (s : State) : s.seedPopAll.2.fifo = [] := rfl
@[simp] theorem State.seedPopAll_out (s : State) : s.seedPopAll.2.out = s.out := rfl
@[simp] theorem State.seedPopAll_host (s : State) : s.seedPopAll.2.host = s.host := rfl
@[simp] theorem State.seedPopAll_ent (s : State) : s.seedPopAll.2.ent = s.ent := rfl
@[simp] theorem State.seedPopAll_draws (s : State) : s.seedPopAll.2.draws = s.draws := rfl
@[simp] theorem State.seedPopAll_pend (s : State) : s.seedPopAll.2.pend = s.pend := rfl
@[simp] theorem State.seedPopAll_rdata (s : State) : s.seedPopAll.2.rdata = s.rdata := rfl

/-! ## Placing a command word (log 6) -/

@[simp] theorem State.withCommand_par (s : State) (w : Word) : (s.withCommand w).par = s.par := rfl
@[simp] theorem State.withCommand_cfg (s : State) (w : Word) : (s.withCommand w).cfg = s.cfg := rfl
@[simp] theorem State.withCommand_valid (s : State) (w : Word) : (s.withCommand w).valid = s.valid := rfl
@[simp] theorem State.withCommand_inst (s : State) (w : Word) : (s.withCommand w).inst = s.inst := rfl
@[simp] theorem State.withCommand_err (s : State) (w : Word) : (s.withCommand w).err = s.err := rfl
@[simp] theorem State.withCommand_errcmd (s : State) (w : Word) : (s.withCommand w).errcmd = s.errcmd := rfl
@[simp] theorem State.withCommand_entcode (s : State) (w : Word) : (s.withCommand w).entcode = s.entcode := rfl
@[simp] theorem State.withCommand_len (s : State) (w : Word) : (s.withCommand w).len = s.len := rfl
@[simp] theorem State.withCommand_fifo (s : State) (w : Word) : (s.withCommand w).fifo = s.fifo := rfl
@[simp] theorem State.withCommand_out (s : State) (w : Word) : (s.withCommand w).out = s.out := rfl
@[simp] theorem State.withCommand_host (s : State) (w : Word) : (s.withCommand w).host = .write 0 32 w :: s.host := rfl
@[simp] theorem State.withCommand_ent (s : State) (w : Word) : (s.withCommand w).ent = s.ent := rfl
@[simp] theorem State.withCommand_draws (s : State) (w : Word) : (s.withCommand w).draws = s.draws := rfl
@[simp] theorem State.withCommand_pend (s : State) (w : Word) : (s.withCommand w).pend = none := rfl
@[simp] theorem State.withCommand_rdata (s : State) (w : Word) : (s.withCommand w).rdata = s.rdata := rfl

@[simp] theorem State.seedPopAll_fst (s : State) : s.seedPopAll.1 = s.fifo := rfl

/-! ## The instance -/

@[simp] theorem Inst.put_S (i : Inst) (ws : List LaneVec) : (i.put ws).S = ws := rfl
@[simp] theorem Inst.put_buf (i : Inst) (ws : List LaneVec) : (i.put ws).buf = i.buf := rfl
@[simp] theorem Inst.put_bufv (i : Inst) (ws : List LaneVec) : (i.put ws).bufv = i.bufv := rfl
@[simp] theorem Inst.empty_S : Inst.empty.S = [] := rfl
@[simp] theorem Inst.empty_buf : Inst.empty.buf = [] := rfl
@[simp] theorem Inst.empty_bufv : Inst.empty.bufv = false := rfl

/-! ## The seed FIFO (20_memory.md R68, R69) -/

@[simp] theorem State.seedPush_par (s : State) (b : Byte) : (s.seedPush b).par = s.par := by unfold State.seedPush; split <;> rfl
@[simp] theorem State.seedPush_cfg (s : State) (b : Byte) : (s.seedPush b).cfg = s.cfg := by unfold State.seedPush; split <;> rfl
@[simp] theorem State.seedPush_valid (s : State) (b : Byte) : (s.seedPush b).valid = s.valid := by unfold State.seedPush; split <;> rfl
@[simp] theorem State.seedPush_inst (s : State) (b : Byte) : (s.seedPush b).inst = s.inst := by unfold State.seedPush; split <;> rfl
@[simp] theorem State.seedPush_err (s : State) (b : Byte) : (s.seedPush b).err = s.err := by unfold State.seedPush; split <;> rfl
@[simp] theorem State.seedPush_errcmd (s : State) (b : Byte) : (s.seedPush b).errcmd = s.errcmd := by unfold State.seedPush; split <;> rfl
@[simp] theorem State.seedPush_entcode (s : State) (b : Byte) : (s.seedPush b).entcode = s.entcode := by unfold State.seedPush; split <;> rfl
@[simp] theorem State.seedPush_len (s : State) (b : Byte) : (s.seedPush b).len = s.len := by unfold State.seedPush; split <;> rfl
@[simp] theorem State.seedPush_out (s : State) (b : Byte) : (s.seedPush b).out = s.out := by unfold State.seedPush; split <;> rfl
@[simp] theorem State.seedPush_host (s : State) (b : Byte) : (s.seedPush b).host = s.host := by unfold State.seedPush; split <;> rfl
@[simp] theorem State.seedPush_ent (s : State) (b : Byte) : (s.seedPush b).ent = s.ent := by unfold State.seedPush; split <;> rfl
@[simp] theorem State.seedPush_draws (s : State) (b : Byte) : (s.seedPush b).draws = s.draws := by unfold State.seedPush; split <;> rfl
@[simp] theorem State.seedPush_pend (s : State) (b : Byte) : (s.seedPush b).pend = s.pend := by unfold State.seedPush; split <;> rfl
@[simp] theorem State.seedPush_rdata (s : State) (b : Byte) : (s.seedPush b).rdata = s.rdata := by unfold State.seedPush; split <;> rfl

/-- A push adds the byte at the tail, or is dropped when the FIFO is full (20_memory.md R68, R69). -/
theorem State.seedPush_fifo (s : State) (b : Byte) :
    (s.seedPush b).fifo = if s.fifo.length < 2048 then s.fifo ++ [b] else s.fifo := by
  unfold State.seedPush fifoDepth; split <;> rfl

/-! ## The entropy port (20_memory.md R70) -/

@[simp] theorem State.entDraw_par (s : State) (n : Nat) : (s.entDraw n).2.par = s.par := by unfold State.entDraw; split <;> rfl
@[simp] theorem State.entDraw_cfg (s : State) (n : Nat) : (s.entDraw n).2.cfg = s.cfg := by unfold State.entDraw; split <;> rfl
@[simp] theorem State.entDraw_valid (s : State) (n : Nat) : (s.entDraw n).2.valid = s.valid := by unfold State.entDraw; split <;> rfl
@[simp] theorem State.entDraw_inst (s : State) (n : Nat) : (s.entDraw n).2.inst = s.inst := by unfold State.entDraw; split <;> rfl
@[simp] theorem State.entDraw_err (s : State) (n : Nat) : (s.entDraw n).2.err = s.err := by unfold State.entDraw; split <;> rfl
@[simp] theorem State.entDraw_errcmd (s : State) (n : Nat) : (s.entDraw n).2.errcmd = s.errcmd := by unfold State.entDraw; split <;> rfl
@[simp] theorem State.entDraw_entcode (s : State) (n : Nat) : (s.entDraw n).2.entcode = s.entcode := by unfold State.entDraw; split <;> rfl
@[simp] theorem State.entDraw_len (s : State) (n : Nat) : (s.entDraw n).2.len = s.len := by unfold State.entDraw; split <;> rfl
@[simp] theorem State.entDraw_fifo (s : State) (n : Nat) : (s.entDraw n).2.fifo = s.fifo := by unfold State.entDraw; split <;> rfl
@[simp] theorem State.entDraw_out (s : State) (n : Nat) : (s.entDraw n).2.out = s.out := by unfold State.entDraw; split <;> rfl
@[simp] theorem State.entDraw_host (s : State) (n : Nat) : (s.entDraw n).2.host = s.host := by unfold State.entDraw; split <;> rfl
@[simp] theorem State.entDraw_pend (s : State) (n : Nat) : (s.entDraw n).2.pend = s.pend := by unfold State.entDraw; split <;> rfl
@[simp] theorem State.entDraw_rdata (s : State) (n : Nat) : (s.entDraw n).2.rdata = s.rdata := by unfold State.entDraw; split <;> rfl
@[simp] theorem State.entDraw_draws (s : State) (n : Nat) : (s.entDraw n).2.draws = s.draws + 1 := by
  unfold State.entDraw; split <;> rfl
@[simp] theorem State.entDraw_ent (s : State) (n : Nat) : (s.entDraw n).2.ent = s.ent.tail := by
  unfold State.entDraw; split <;> simp [*]

/-! ## Register accesses -/

@[simp] theorem State.hostRead_par (s : State) (off : Nat) : (s.hostRead off).par = s.par := rfl
@[simp] theorem State.hostRead_cfg (s : State) (off : Nat) : (s.hostRead off).cfg = s.cfg := rfl
@[simp] theorem State.hostRead_valid (s : State) (off : Nat) : (s.hostRead off).valid = s.valid := rfl
@[simp] theorem State.hostRead_inst (s : State) (off : Nat) : (s.hostRead off).inst = s.inst := rfl
@[simp] theorem State.hostRead_err (s : State) (off : Nat) : (s.hostRead off).err = s.err := rfl
@[simp] theorem State.hostRead_errcmd (s : State) (off : Nat) : (s.hostRead off).errcmd = s.errcmd := rfl
@[simp] theorem State.hostRead_entcode (s : State) (off : Nat) : (s.hostRead off).entcode = s.entcode := rfl
@[simp] theorem State.hostRead_len (s : State) (off : Nat) : (s.hostRead off).len = s.len := rfl
@[simp] theorem State.hostRead_fifo (s : State) (off : Nat) : (s.hostRead off).fifo = s.fifo := rfl
@[simp] theorem State.hostRead_out (s : State) (off : Nat) : (s.hostRead off).out = s.out := rfl
@[simp] theorem State.hostRead_host (s : State) (off : Nat) : (s.hostRead off).host = s.host := rfl
@[simp] theorem State.hostRead_ent (s : State) (off : Nat) : (s.hostRead off).ent = s.ent := rfl
@[simp] theorem State.hostRead_pend (s : State) (off : Nat) : (s.hostRead off).pend = s.pend := rfl
@[simp] theorem State.hostRead_rdata (s : State) (off : Nat) : (s.hostRead off).rdata = s.readReg off := rfl

end Sys2Proof.Machine
end

