-- ==== Sys2Proof/Laws/Ops.lean ====
section
/-! SUPPORT. One lemma per shared operation that says once everything it can do, for the provers to cite in place of
unfolding it. -/

namespace Sys2Proof.Machine

/-! ## The wrappers -/

/-- Everything a command other than CLRERR and RESET can do first (47_control.md R360). -/
theorem State.command_cases (s : State) (i : Instr) (effect : State → State) :
    (s.err ≠ .none ∧ s.command i effect = s) ∨
    (s.err = .none ∧ i.wf = true ∧ s.command i effect = effect s) ∨
    (s.err = .none ∧ i.wf = false ∧ s.command i effect = s.raise .illegal (encode i) 0) := by
  unfold State.command
  by_cases h : s.err = .none <;> by_cases hw : i.wf = true <;> simp [h, hw]

/-- A well-formed command with no error recorded has its own effect. -/
theorem State.command_ok {s : State} {i : Instr} (h : s.err = .none) (hw : i.wf = true) (effect : State → State) :
    s.command i effect = effect s := by simp [State.command, h, hw]

/-- A recorded error blocks a command (60_exceptions.md R384). -/
theorem State.command_blocked {s : State} (h : s.err ≠ .none) (i : Instr) (effect : State → State) :
    s.command i effect = s := by simp [State.command, h]

/-- Everything GEN and FILL can do before their effect (47_control.md R364, R365). -/
theorem State.withInstance_cases (s : State) (i : Instr) (c : Cfg) (effect : State → State) :
    (s.err ≠ .none ∧ s.withInstance i c effect = s) ∨
    (s.err = .none ∧ i.wf = false ∧ s.withInstance i c effect = s.raise .illegal (encode i) 0) ∨
    (s.err = .none ∧ i.wf = true ∧ s.valid = false ∧ s.withInstance i c effect = s.raise .notSeeded (encode i) 0) ∨
    (s.err = .none ∧ i.wf = true ∧ s.valid = true ∧ s.cfg ≠ c ∧
      s.withInstance i c effect = s.raise .mismatch (encode i) 0) ∨
    (s.err = .none ∧ i.wf = true ∧ s.valid = true ∧ s.cfg = c ∧ s.withInstance i c effect = effect s) := by
  unfold State.withInstance State.command
  by_cases h : s.err = .none <;> by_cases hw : i.wf = true <;> by_cases hv : s.valid = true <;>
    by_cases hc : s.cfg = c <;> simp [h, hw, hv, hc]

/-- GEN and FILL with their checks passed. -/
theorem State.withInstance_ok {s : State} {i : Instr} {c : Cfg} (h : s.err = .none) (hw : i.wf = true)
    (hv : s.valid = true) (hc : s.cfg = c) (effect : State → State) : s.withInstance i c effect = effect s := by
  simp [State.withInstance, State.command, h, hw, hv, hc]

/-- GEN with its checks passed: one step, its image on OUT, nothing else (47_control.md R364). -/
theorem State.genWith_ok {s : State} {i : Instr} {c : Cfg} (h : s.err = .none) (hw : i.wf = true)
    (hv : s.valid = true) (hc : s.cfg = c) (step : StepFn) :
    s.genWith i c step = { s with inst := (step s.inst).1, out := s.out ++ (step s.inst).2 } := by
  rw [State.genWith, State.withInstance_ok h hw hv hc]; rfl

/-- FILL with its checks passed: its loop's bytes on OUT, nothing else (46_byte_adapter.md R350). -/
theorem State.fillWith_ok {s : State} {i : Instr} {c : Cfg} (h : s.err = .none) (hw : i.wf = true)
    (hv : s.valid = true) (hc : s.cfg = c) (step : StepFn) :
    s.fillWith i c step = { s with
      inst := (fillLoop step s.len.toNat s.len.toNat s.inst).1
      out := s.out ++ (fillLoop step s.len.toNat s.len.toNat s.inst).2 } := by
  rw [State.fillWith, State.withInstance_ok h hw hv hc]; rfl

/-! ## FILL's loop (46_byte_adapter.md R350) -/

/-- A loop with nothing left to append does no step. -/
@[simp] theorem fillLoop_zero (step : StepFn) (fuel : Nat) (i : Inst) : fillLoop step fuel 0 i = (i, []) := by
  cases fuel <;> simp [fillLoop]

/-- One round of the loop. -/
theorem fillLoop_succ (step : StepFn) (fuel : Nat) {rem : Nat} (h : rem ≠ 0) (i : Inst) :
    fillLoop step (fuel + 1) rem i =
      ((fillLoop step fuel (rem - min (step i).2.length rem) (step i).1).1,
        (step i).2.take rem ++ (fillLoop step fuel (rem - min (step i).2.length rem) (step i).1).2) := by
  simp [fillLoop, h]

/-! ## The entropy port (20_memory.md R70) -/

@[simp] theorem answerBytes_length (k n : Nat) (l : List Byte) : (answerBytes k n l).length = n := by simp [answerBytes]

/-- A listed answer of the right length is what the draw yields. -/
theorem answerBytes_self {k n : Nat} {l : List Byte} (h : l.length = n) : answerBytes k n l = l := by
  apply List.ext_getElem?
  intro i
  by_cases hi : i < n
  · simp [answerBytes, hi, List.getD_eq_getElem?_getD, List.getElem?_eq_getElem (show i < l.length by omega)]
  · rw [List.getElem?_eq_none (by simpa using hi), List.getElem?_eq_none (by omega)]

/-- A draw takes the next listed answer, whole. -/
theorem State.entDraw_ok {s : State} {n : Nat} {b : List Byte} {rest : List EntAnswer} (h : s.ent = .ok b :: rest)
    (hb : b.length = n) : s.entDraw n = (.ok b, { s with ent := rest, draws := s.draws + 1 }) := by
  simp [State.entDraw, h, answerBytes_self hb]

/-- A draw that fails. -/
theorem State.entDraw_fail {s : State} {n : Nat} {c : BitVec 32} {rest : List EntAnswer} (h : s.ent = .fail c :: rest) :
    s.entDraw n = (.fail c, { s with ent := rest, draws := s.draws + 1 }) := by
  simp [State.entDraw, h]

/-- Everything a draw can do: a failure, or exactly n bytes; nothing but the answers left and the counter changes. -/
theorem State.entDraw_cases (s : State) (n : Nat) :
    (∃ c, (s.entDraw n).1 = .fail c) ∨ (∃ b : List Byte, b.length = n ∧ (s.entDraw n).1 = .ok b) := by
  unfold State.entDraw
  split
  · exact .inr ⟨_, by simp, rfl⟩
  · exact .inl ⟨_, rfl⟩
  · cases Config.entFail s.draws with
    | some c => exact .inl ⟨c, rfl⟩
    | none => exact .inr ⟨_, by simp, rfl⟩

/-! ## The seeding loop (45_seeding.md R303) -/

/-- The state a seeding has after its draws: nothing but the answers left and the counter has changed. -/
def SeedEnd.state : SeedEnd → State
  | .done _ s => s
  | .failed _ s => s
  | .never s => s

/-- A state that differs from `s` in the answers left and the counter only. -/
def DrawnFrom (s t : State) : Prop := t = { s with ent := t.ent, draws := t.draws }

theorem DrawnFrom.refl (s : State) : DrawnFrom s s := rfl

theorem DrawnFrom.trans {s t u : State} (h : DrawnFrom s t) (h' : DrawnFrom t u) : DrawnFrom s u := by
  unfold DrawnFrom at *; rw [h']; rw [h]

theorem DrawnFrom.entDraw (s : State) (n : Nat) : DrawnFrom s (s.entDraw n).2 := by
  unfold DrawnFrom State.entDraw; split <;> rfl

/-- Listed answers are taken one by one: a source that answers one request more than it did has one answer less listed. -/
theorem State.entDraw_left {s : State} {fuel : Nat} (n : Nat) (h : s.ent.length ≤ fuel + 1) :
    (s.entDraw n).2.ent.length ≤ fuel := by
  unfold State.entDraw
  split <;> rename_i he <;> simp [he] at h ⊢ <;> omega

theorem State.answered_le (s : State) : s.ent.length ≤ s.answered := Nat.le_add_left ..

/-- Everything the loop can do: it ends in words that the test accepts, loaded from exactly SB bytes, or with a failure, or
never, with no listed answer left; and it changes nothing but the answers left and the counter (45_seeding.md R303). -/
theorem seedLoop_spec (p : SeedProc) (fuel : Nat) (s : State) :
    DrawnFrom s (seedLoop p fuel s).state ∧
    (∀ S t, seedLoop p fuel s = .done S t →
      ∃ b : List Byte, b.length = p.sb ∧ S = p.load b ∧ p.accept S = true) ∧
    (∀ t, seedLoop p fuel s = .never t → s.ent.length ≤ fuel → t.ent = []) := by
  induction fuel generalizing s with
  | zero => exact ⟨DrawnFrom.refl s, by simp [seedLoop], by simp [seedLoop]⟩
  | succ fuel ih =>
    have hd := DrawnFrom.entDraw s p.sb
    have hleft := fun h => State.entDraw_left (s := s) (fuel := fuel) p.sb h
    rcases hr : s.entDraw p.sb with ⟨r, s'⟩
    rw [hr] at hd hleft
    cases r with
    | fail c => simp [seedLoop, hr, SeedEnd.state]; exact hd
    | ok b =>
      have hb : b.length = p.sb := by
        rcases State.entDraw_cases s p.sb with ⟨c, hc⟩ | ⟨b', hb', hc⟩ <;> simp [hr] at hc
        rw [hc]; exact hb'
      by_cases ha : p.accept (p.load b) = true
      · simp only [seedLoop, hr, ha, if_true]
        refine ⟨hd, ?_, by simp⟩
        rintro S t ⟨⟩
        exact ⟨b, hb, rfl, ha⟩
      · simp only [seedLoop, hr, ha]
        exact ⟨hd.trans (ih s').1, (ih s').2.1, fun t ht h => (ih s').2.2 t ht (hleft h)⟩

/-- The loop with listed answers: some that the test rejects, then one it accepts. -/
theorem seedLoop_done (p : SeedProc) (rejected : List (List Byte)) (b : List Byte) (rest : List EntAnswer) (fuel : Nat)
    (s : State) (hr : ∀ r ∈ rejected, r.length = p.sb ∧ p.accept (p.load r) = false) (hb : b.length = p.sb)
    (ha : p.accept (p.load b) = true) (he : s.ent = rejected.map .ok ++ .ok b :: rest)
    (hf : rejected.length < fuel) :
    seedLoop p fuel s =
      .done (p.load b) { s with ent := rest, draws := s.draws + rejected.length + 1 } := by
  induction rejected generalizing s fuel with
  | nil =>
    obtain ⟨fuel, rfl⟩ : ∃ k, fuel = k + 1 := ⟨fuel - 1, by simp at hf; omega⟩
    simp [seedLoop, State.entDraw_ok (s := s) (by simpa using he) hb, ha]
  | cons r rs ih =>
    obtain ⟨fuel, rfl⟩ : ∃ k, fuel = k + 1 := ⟨fuel - 1, by simp at hf; omega⟩
    obtain ⟨h1, h2⟩ := hr r (by simp)
    simp only [List.map_cons, List.cons_append] at he
    simp only [seedLoop, State.entDraw_ok he h1, h2]
    rw [if_neg (by simp)]
    rw [ih fuel _ (fun x hx => hr x (by simp [hx])) rfl (by simp at hf ⊢; omega)]
    simp; omega

/-- The loop with listed answers: some that the test rejects, then a failure. -/
theorem seedLoop_failed (p : SeedProc) (rejected : List (List Byte)) (c : BitVec 32) (rest : List EntAnswer) (fuel : Nat)
    (s : State) (hr : ∀ r ∈ rejected, r.length = p.sb ∧ p.accept (p.load r) = false)
    (he : s.ent = rejected.map .ok ++ .fail c :: rest) (hf : rejected.length < fuel) :
    seedLoop p fuel s = .failed c { s with ent := rest, draws := s.draws + rejected.length + 1 } := by
  induction rejected generalizing s fuel with
  | nil =>
    obtain ⟨fuel, rfl⟩ : ∃ k, fuel = k + 1 := ⟨fuel - 1, by simp at hf; omega⟩
    simp [seedLoop, State.entDraw_fail (s := s) (by simpa using he)]
  | cons r rs ih =>
    obtain ⟨fuel, rfl⟩ : ∃ k, fuel = k + 1 := ⟨fuel - 1, by simp at hf; omega⟩
    obtain ⟨h1, h2⟩ := hr r (by simp)
    simp only [List.map_cons, List.cons_append] at he
    simp only [seedLoop, State.entDraw_ok he h1, h2]
    rw [if_neg (by simp)]
    rw [ih fuel _ (fun x hx => hr x (by simp [hx])) rfl (by simp at hf ⊢; omega)]
    simp; omega

/-- Everything the end of a seeding can be: an instance, E_ENTROPY with none, or a command that never completes
(45_seeding.md R300, R345, R346). -/
theorem SeedEnd.finish_cases (e : SeedEnd) (i : Instr) (c : Cfg) (post : List LaneVec → List LaneVec) :
    (∃ S, e = .done S e.state ∧ e.finish i c post = e.state.install c (post S)) ∨
    (∃ code, e = .failed code e.state ∧ e.finish i c post = e.state.raise .entropy (encode i) code) ∨
    (e = .never e.state ∧ e.finish i c post = { e.state with pend := some i }) := by
  cases e with
  | done S s => exact .inl ⟨S, rfl, rfl⟩
  | failed code s => exact .inr (.inl ⟨code, rfl, rfl⟩)
  | never s => exact .inr (.inr ⟨rfl, rfl⟩)

/-- Everything SEED_FIXED can do once it runs (45_seeding.md R343). -/
theorem State.seedFixedWith_cases {s : State} {i : Instr} (h : s.err = .none) (hw : i.wf = true) (f : Fam) (c : Cfg)
    (p : SeedProc) :
    (f ∉ s.par.fixedSeed ∧ s.seedFixedWith i f c p = { s with fifo := [] }.raise .unsupported (encode i) 0) ∨
    (f ∈ s.par.fixedSeed ∧ (s.fifo.length ≠ p.sb ∨ p.accept (p.load s.fifo) = false) ∧
      s.seedFixedWith i f c p = ({ s with fifo := [] }.dropInstance).raise .badSeed (encode i) 0) ∨
    (f ∈ s.par.fixedSeed ∧ s.fifo.length = p.sb ∧ p.accept (p.load s.fifo) = true ∧
      s.seedFixedWith i f c p = ({ s with fifo := [] }.dropInstance).install c (p.load s.fifo)) := by
  unfold State.seedFixedWith
  rw [State.command_ok h hw]
  simp only [State.seedPopAll]
  by_cases hf : f ∈ s.par.fixedSeed <;> by_cases hl : s.fifo.length = p.sb <;>
    by_cases ha : p.accept (p.load s.fifo) = true <;> simp [hf, hl, ha]

/-! ## Accesses and the step (20_memory.md R71, 47_control.md R360) -/

/-- Everything an access can do. -/
theorem access_cases (off bits : Nat) (effect : Result) :
    ((bits ≠ 32 ∨ off % 4 ≠ 0) ∧ access off bits effect = .refused (.notAligned32 off bits)) ∨
    (bits = 32 ∧ off % 4 = 0 ∧ 0x800 ≤ off ∧ access off bits effect = .fault (.outsideRegisterSpace off)) ∨
    (bits = 32 ∧ off % 4 = 0 ∧ off < 0x800 ∧ access off bits effect = effect) := by
  unfold access
  by_cases h1 : bits = 32 <;> by_cases h2 : off % 4 = 0 <;> by_cases h3 : 0x800 ≤ off <;> simp [h1, h2, h3]
  omega

/-- Everything a word on CMD can do (47_control.md R360). -/
theorem issue_cases (w : Word) (s : State) :
    (∃ i, decode w = .ok i ∧ issue w s = exec i s) ∨
    ((∀ i, decode w ≠ .ok i) ∧ s.err ≠ .none ∧ issue w s = .next s) ∨
    ((∀ i, decode w ≠ .ok i) ∧ s.err = .none ∧ issue w s = .next (s.raise .illegal w 0)) := by
  unfold issue
  cases h : decode w with
  | ok i => exact .inl ⟨i, rfl, rfl⟩
  | error e => by_cases he : s.err = .none <;> simp [he]

/-- Everything the step can do (20_memory.md R74; log 5, 6). -/
theorem step_cases (s : State) :
    (s.pend.isSome = true ∧ step s = .next s) ∨
    (s.pend = none ∧ s.host = [] ∧ step s = .next s) ∨
    (∃ a rest, s.pend = none ∧ s.host = a :: rest ∧ step s = act a { s with host := rest }) := by
  unfold step advance
  cases hp : s.pend with
  | some i => exact .inl ⟨rfl, rfl⟩
  | none =>
    cases hh : s.host with
    | nil => exact .inr (.inl ⟨rfl, rfl, rfl⟩)
    | cons a rest => exact .inr (.inr ⟨a, rest, rfl, rfl, rfl⟩)

end Sys2Proof.Machine
end

