-- ==== Sys2Proof/Laws/PerInstr.lean ====
section
/-! SUPPORT. One lemma per command: its word has the fields its row of 30_encoding.md R102 has. -/

namespace Sys2Proof.Laws.EncodeFields

/-- The word of a command has the operation's code in OP, the family's and the lane count's in FAM and LN (0 for NOP, CLRERR
and RESET), and ZERO is 0 (30_encoding.md R90, R95, R102). -/
def Statement (i : Instr) : Prop :=
  fieldOp (encode i) = i.parts.1.code ∧ fieldZero (encode i) = 0 ∧
  match i.parts.2 with
  | none => fieldFam (encode i) = 0 ∧ fieldLn (encode i) = 0
  | some (f, n) => fieldFam (encode i) = f.code ∧ fieldLn (encode i) = f.lnCode n

theorem nop : Statement .nop := ⟨rfl, rfl, rfl, rfl⟩
theorem clrerr : Statement .clrerr := ⟨rfl, rfl, rfl, rfl⟩
theorem reset : Statement .reset := ⟨rfl, rfl, rfl, rfl⟩
theorem seedRngXorshift32 (n : Lanes) : Statement (.seedRngXorshift32 n) := by cases n <;> exact ⟨rfl, rfl, rfl, rfl⟩
theorem seedRngXorshift128 (n : Lanes) : Statement (.seedRngXorshift128 n) := by cases n <;> exact ⟨rfl, rfl, rfl, rfl⟩
theorem seedRngXorshift128plus (n : Lanes) : Statement (.seedRngXorshift128plus n) := by cases n <;> exact ⟨rfl, rfl, rfl, rfl⟩
theorem seedRngXoroshiro128ss (n : Lanes) : Statement (.seedRngXoroshiro128ss n) := by cases n <;> exact ⟨rfl, rfl, rfl, rfl⟩
theorem seedRngXoshiro128ss (n : Lanes) : Statement (.seedRngXoshiro128ss n) := by cases n <;> exact ⟨rfl, rfl, rfl, rfl⟩
theorem seedRngXoshiro256ss (n : Lanes) : Statement (.seedRngXoshiro256ss n) := by cases n <;> exact ⟨rfl, rfl, rfl, rfl⟩
theorem seedRngXoshiro512ss (n : Lanes) : Statement (.seedRngXoshiro512ss n) := by cases n <;> exact ⟨rfl, rfl, rfl, rfl⟩
theorem seedRngPcg32 (n : Lanes) : Statement (.seedRngPcg32 n) := by cases n <;> exact ⟨rfl, rfl, rfl, rfl⟩
theorem seedRngPcg32Xsh (n : Lanes) : Statement (.seedRngPcg32Xsh n) := by cases n <;> exact ⟨rfl, rfl, rfl, rfl⟩
theorem seedRngPcg32Xsl (n : Lanes) : Statement (.seedRngPcg32Xsl n) := by cases n <;> exact ⟨rfl, rfl, rfl, rfl⟩
theorem seedRngLcg32 (n : Lanes) : Statement (.seedRngLcg32 n) := by cases n <;> exact ⟨rfl, rfl, rfl, rfl⟩
theorem seedRngLcg16 (n : Lanes) : Statement (.seedRngLcg16 n) := by cases n <;> exact ⟨rfl, rfl, rfl, rfl⟩
theorem seedRngJsf32 (n : Lanes) : Statement (.seedRngJsf32 n) := by cases n <;> exact ⟨rfl, rfl, rfl, rfl⟩
theorem seedRngJsf64 (n : Lanes) : Statement (.seedRngJsf64 n) := by cases n <;> exact ⟨rfl, rfl, rfl, rfl⟩
theorem seedRngLfsr113 (n : Lanes) : Statement (.seedRngLfsr113 n) := by cases n <;> exact ⟨rfl, rfl, rfl, rfl⟩
theorem seedRngLfsr258 (n : Lanes) : Statement (.seedRngLfsr258 n) := by cases n <;> exact ⟨rfl, rfl, rfl, rfl⟩
theorem seedRngMwc (n : Lanes) : Statement (.seedRngMwc n) := by cases n <;> exact ⟨rfl, rfl, rfl, rfl⟩
theorem seedRngSfc64 (n : Lanes) : Statement (.seedRngSfc64 n) := by cases n <;> exact ⟨rfl, rfl, rfl, rfl⟩
theorem seedRngSfc32 (n : Lanes) : Statement (.seedRngSfc32 n) := by cases n <;> exact ⟨rfl, rfl, rfl, rfl⟩
theorem seedRngSfc16 (n : Lanes) : Statement (.seedRngSfc16 n) := by cases n <;> exact ⟨rfl, rfl, rfl, rfl⟩
theorem seedRngXsm32 (n : Lanes) : Statement (.seedRngXsm32 n) := by cases n <;> exact ⟨rfl, rfl, rfl, rfl⟩
theorem seedRngXsm64 (n : Lanes) : Statement (.seedRngXsm64 n) := by cases n <;> exact ⟨rfl, rfl, rfl, rfl⟩
theorem seedRngChacha4 : Statement .seedRngChacha4 := ⟨rfl, rfl, rfl, rfl⟩
theorem seedRngChacha4f : Statement .seedRngChacha4f := ⟨rfl, rfl, rfl, rfl⟩
theorem seedRngArs5 : Statement .seedRngArs5 := ⟨rfl, rfl, rfl, rfl⟩
theorem seedRngArs7 : Statement .seedRngArs7 := ⟨rfl, rfl, rfl, rfl⟩
theorem seedRngAesrand : Statement .seedRngAesrand := ⟨rfl, rfl, rfl, rfl⟩
theorem seedRngSselcg : Statement .seedRngSselcg := ⟨rfl, rfl, rfl, rfl⟩
theorem seedBlocksXorshift32 (n : Lanes) : Statement (.seedBlocksXorshift32 n) := by cases n <;> exact ⟨rfl, rfl, rfl, rfl⟩
theorem seedBlocksXorshift128 (n : Lanes) : Statement (.seedBlocksXorshift128 n) := by cases n <;> exact ⟨rfl, rfl, rfl, rfl⟩
theorem seedBlocksXorshift128plus (n : Lanes) : Statement (.seedBlocksXorshift128plus n) := by cases n <;> exact ⟨rfl, rfl, rfl, rfl⟩
theorem seedBlocksXoroshiro128ss (n : Lanes) : Statement (.seedBlocksXoroshiro128ss n) := by cases n <;> exact ⟨rfl, rfl, rfl, rfl⟩
theorem seedBlocksXoshiro128ss (n : Lanes) : Statement (.seedBlocksXoshiro128ss n) := by cases n <;> exact ⟨rfl, rfl, rfl, rfl⟩
theorem seedBlocksXoshiro256ss (n : Lanes) : Statement (.seedBlocksXoshiro256ss n) := by cases n <;> exact ⟨rfl, rfl, rfl, rfl⟩
theorem seedBlocksXoshiro512ss (n : Lanes) : Statement (.seedBlocksXoshiro512ss n) := by cases n <;> exact ⟨rfl, rfl, rfl, rfl⟩
theorem seedBlocksPcg32 (n : Lanes) : Statement (.seedBlocksPcg32 n) := by cases n <;> exact ⟨rfl, rfl, rfl, rfl⟩
theorem seedBlocksPcg32Xsh (n : Lanes) : Statement (.seedBlocksPcg32Xsh n) := by cases n <;> exact ⟨rfl, rfl, rfl, rfl⟩
theorem seedBlocksPcg32Xsl (n : Lanes) : Statement (.seedBlocksPcg32Xsl n) := by cases n <;> exact ⟨rfl, rfl, rfl, rfl⟩
theorem seedBlocksLcg32 (n : Lanes) : Statement (.seedBlocksLcg32 n) := by cases n <;> exact ⟨rfl, rfl, rfl, rfl⟩
theorem seedBlocksLcg16 (n : Lanes) : Statement (.seedBlocksLcg16 n) := by cases n <;> exact ⟨rfl, rfl, rfl, rfl⟩
theorem seedBlocksJsf32 (n : Lanes) : Statement (.seedBlocksJsf32 n) := by cases n <;> exact ⟨rfl, rfl, rfl, rfl⟩
theorem seedBlocksJsf64 (n : Lanes) : Statement (.seedBlocksJsf64 n) := by cases n <;> exact ⟨rfl, rfl, rfl, rfl⟩
theorem seedBlocksLfsr113 (n : Lanes) : Statement (.seedBlocksLfsr113 n) := by cases n <;> exact ⟨rfl, rfl, rfl, rfl⟩
theorem seedBlocksLfsr258 (n : Lanes) : Statement (.seedBlocksLfsr258 n) := by cases n <;> exact ⟨rfl, rfl, rfl, rfl⟩
theorem seedBlocksMwc (n : Lanes) : Statement (.seedBlocksMwc n) := by cases n <;> exact ⟨rfl, rfl, rfl, rfl⟩
theorem seedBlocksSfc64 (n : Lanes) : Statement (.seedBlocksSfc64 n) := by cases n <;> exact ⟨rfl, rfl, rfl, rfl⟩
theorem seedBlocksSfc32 (n : Lanes) : Statement (.seedBlocksSfc32 n) := by cases n <;> exact ⟨rfl, rfl, rfl, rfl⟩
theorem seedBlocksSfc16 (n : Lanes) : Statement (.seedBlocksSfc16 n) := by cases n <;> exact ⟨rfl, rfl, rfl, rfl⟩
theorem seedBlocksXsm32 (n : Lanes) : Statement (.seedBlocksXsm32 n) := by cases n <;> exact ⟨rfl, rfl, rfl, rfl⟩
theorem seedBlocksXsm64 (n : Lanes) : Statement (.seedBlocksXsm64 n) := by cases n <;> exact ⟨rfl, rfl, rfl, rfl⟩
theorem seedBlocksChacha4 : Statement .seedBlocksChacha4 := ⟨rfl, rfl, rfl, rfl⟩
theorem seedBlocksChacha4f : Statement .seedBlocksChacha4f := ⟨rfl, rfl, rfl, rfl⟩
theorem seedBlocksArs5 : Statement .seedBlocksArs5 := ⟨rfl, rfl, rfl, rfl⟩
theorem seedBlocksArs7 : Statement .seedBlocksArs7 := ⟨rfl, rfl, rfl, rfl⟩
theorem seedBlocksAesrand : Statement .seedBlocksAesrand := ⟨rfl, rfl, rfl, rfl⟩
theorem seedBlocksSselcg : Statement .seedBlocksSselcg := ⟨rfl, rfl, rfl, rfl⟩
theorem seedFixedXorshift32 (n : Lanes) : Statement (.seedFixedXorshift32 n) := by cases n <;> exact ⟨rfl, rfl, rfl, rfl⟩
theorem seedFixedXorshift128 (n : Lanes) : Statement (.seedFixedXorshift128 n) := by cases n <;> exact ⟨rfl, rfl, rfl, rfl⟩
theorem seedFixedXorshift128plus (n : Lanes) : Statement (.seedFixedXorshift128plus n) := by cases n <;> exact ⟨rfl, rfl, rfl, rfl⟩
theorem seedFixedXoroshiro128ss (n : Lanes) : Statement (.seedFixedXoroshiro128ss n) := by cases n <;> exact ⟨rfl, rfl, rfl, rfl⟩
theorem seedFixedXoshiro128ss (n : Lanes) : Statement (.seedFixedXoshiro128ss n) := by cases n <;> exact ⟨rfl, rfl, rfl, rfl⟩
theorem seedFixedXoshiro256ss (n : Lanes) : Statement (.seedFixedXoshiro256ss n) := by cases n <;> exact ⟨rfl, rfl, rfl, rfl⟩
theorem seedFixedXoshiro512ss (n : Lanes) : Statement (.seedFixedXoshiro512ss n) := by cases n <;> exact ⟨rfl, rfl, rfl, rfl⟩
theorem seedFixedPcg32 (n : Lanes) : Statement (.seedFixedPcg32 n) := by cases n <;> exact ⟨rfl, rfl, rfl, rfl⟩
theorem seedFixedPcg32Xsh (n : Lanes) : Statement (.seedFixedPcg32Xsh n) := by cases n <;> exact ⟨rfl, rfl, rfl, rfl⟩
theorem seedFixedPcg32Xsl (n : Lanes) : Statement (.seedFixedPcg32Xsl n) := by cases n <;> exact ⟨rfl, rfl, rfl, rfl⟩
theorem seedFixedLcg32 (n : Lanes) : Statement (.seedFixedLcg32 n) := by cases n <;> exact ⟨rfl, rfl, rfl, rfl⟩
theorem seedFixedLcg16 (n : Lanes) : Statement (.seedFixedLcg16 n) := by cases n <;> exact ⟨rfl, rfl, rfl, rfl⟩
theorem seedFixedJsf32 (n : Lanes) : Statement (.seedFixedJsf32 n) := by cases n <;> exact ⟨rfl, rfl, rfl, rfl⟩
theorem seedFixedJsf64 (n : Lanes) : Statement (.seedFixedJsf64 n) := by cases n <;> exact ⟨rfl, rfl, rfl, rfl⟩
theorem seedFixedLfsr113 (n : Lanes) : Statement (.seedFixedLfsr113 n) := by cases n <;> exact ⟨rfl, rfl, rfl, rfl⟩
theorem seedFixedLfsr258 (n : Lanes) : Statement (.seedFixedLfsr258 n) := by cases n <;> exact ⟨rfl, rfl, rfl, rfl⟩
theorem seedFixedMwc (n : Lanes) : Statement (.seedFixedMwc n) := by cases n <;> exact ⟨rfl, rfl, rfl, rfl⟩
theorem seedFixedSfc64 (n : Lanes) : Statement (.seedFixedSfc64 n) := by cases n <;> exact ⟨rfl, rfl, rfl, rfl⟩
theorem seedFixedSfc32 (n : Lanes) : Statement (.seedFixedSfc32 n) := by cases n <;> exact ⟨rfl, rfl, rfl, rfl⟩
theorem seedFixedSfc16 (n : Lanes) : Statement (.seedFixedSfc16 n) := by cases n <;> exact ⟨rfl, rfl, rfl, rfl⟩
theorem seedFixedXsm32 (n : Lanes) : Statement (.seedFixedXsm32 n) := by cases n <;> exact ⟨rfl, rfl, rfl, rfl⟩
theorem seedFixedXsm64 (n : Lanes) : Statement (.seedFixedXsm64 n) := by cases n <;> exact ⟨rfl, rfl, rfl, rfl⟩
theorem seedFixedChacha4 : Statement .seedFixedChacha4 := ⟨rfl, rfl, rfl, rfl⟩
theorem seedFixedChacha4f : Statement .seedFixedChacha4f := ⟨rfl, rfl, rfl, rfl⟩
theorem seedFixedArs5 : Statement .seedFixedArs5 := ⟨rfl, rfl, rfl, rfl⟩
theorem seedFixedArs7 : Statement .seedFixedArs7 := ⟨rfl, rfl, rfl, rfl⟩
theorem seedFixedAesrand : Statement .seedFixedAesrand := ⟨rfl, rfl, rfl, rfl⟩
theorem seedFixedSselcg : Statement .seedFixedSselcg := ⟨rfl, rfl, rfl, rfl⟩
theorem genXorshift32 (n : Lanes) : Statement (.genXorshift32 n) := by cases n <;> exact ⟨rfl, rfl, rfl, rfl⟩
theorem genXorshift128 (n : Lanes) : Statement (.genXorshift128 n) := by cases n <;> exact ⟨rfl, rfl, rfl, rfl⟩
theorem genXorshift128plus (n : Lanes) : Statement (.genXorshift128plus n) := by cases n <;> exact ⟨rfl, rfl, rfl, rfl⟩
theorem genXoroshiro128ss (n : Lanes) : Statement (.genXoroshiro128ss n) := by cases n <;> exact ⟨rfl, rfl, rfl, rfl⟩
theorem genXoshiro128ss (n : Lanes) : Statement (.genXoshiro128ss n) := by cases n <;> exact ⟨rfl, rfl, rfl, rfl⟩
theorem genXoshiro256ss (n : Lanes) : Statement (.genXoshiro256ss n) := by cases n <;> exact ⟨rfl, rfl, rfl, rfl⟩
theorem genXoshiro512ss (n : Lanes) : Statement (.genXoshiro512ss n) := by cases n <;> exact ⟨rfl, rfl, rfl, rfl⟩
theorem genPcg32 (n : Lanes) : Statement (.genPcg32 n) := by cases n <;> exact ⟨rfl, rfl, rfl, rfl⟩
theorem genPcg32Xsh (n : Lanes) : Statement (.genPcg32Xsh n) := by cases n <;> exact ⟨rfl, rfl, rfl, rfl⟩
theorem genPcg32Xsl (n : Lanes) : Statement (.genPcg32Xsl n) := by cases n <;> exact ⟨rfl, rfl, rfl, rfl⟩
theorem genLcg32 (n : Lanes) : Statement (.genLcg32 n) := by cases n <;> exact ⟨rfl, rfl, rfl, rfl⟩
theorem genLcg16 (n : Lanes) : Statement (.genLcg16 n) := by cases n <;> exact ⟨rfl, rfl, rfl, rfl⟩
theorem genJsf32 (n : Lanes) : Statement (.genJsf32 n) := by cases n <;> exact ⟨rfl, rfl, rfl, rfl⟩
theorem genJsf64 (n : Lanes) : Statement (.genJsf64 n) := by cases n <;> exact ⟨rfl, rfl, rfl, rfl⟩
theorem genLfsr113 (n : Lanes) : Statement (.genLfsr113 n) := by cases n <;> exact ⟨rfl, rfl, rfl, rfl⟩
theorem genLfsr258 (n : Lanes) : Statement (.genLfsr258 n) := by cases n <;> exact ⟨rfl, rfl, rfl, rfl⟩
theorem genMwc (n : Lanes) : Statement (.genMwc n) := by cases n <;> exact ⟨rfl, rfl, rfl, rfl⟩
theorem genSfc64 (n : Lanes) : Statement (.genSfc64 n) := by cases n <;> exact ⟨rfl, rfl, rfl, rfl⟩
theorem genSfc32 (n : Lanes) : Statement (.genSfc32 n) := by cases n <;> exact ⟨rfl, rfl, rfl, rfl⟩
theorem genSfc16 (n : Lanes) : Statement (.genSfc16 n) := by cases n <;> exact ⟨rfl, rfl, rfl, rfl⟩
theorem genXsm32 (n : Lanes) : Statement (.genXsm32 n) := by cases n <;> exact ⟨rfl, rfl, rfl, rfl⟩
theorem genXsm64 (n : Lanes) : Statement (.genXsm64 n) := by cases n <;> exact ⟨rfl, rfl, rfl, rfl⟩
theorem genChacha4 : Statement .genChacha4 := ⟨rfl, rfl, rfl, rfl⟩
theorem genChacha4f : Statement .genChacha4f := ⟨rfl, rfl, rfl, rfl⟩
theorem genArs5 : Statement .genArs5 := ⟨rfl, rfl, rfl, rfl⟩
theorem genArs7 : Statement .genArs7 := ⟨rfl, rfl, rfl, rfl⟩
theorem genAesrand : Statement .genAesrand := ⟨rfl, rfl, rfl, rfl⟩
theorem genSselcg : Statement .genSselcg := ⟨rfl, rfl, rfl, rfl⟩
theorem fillXorshift32 (n : Lanes) : Statement (.fillXorshift32 n) := by cases n <;> exact ⟨rfl, rfl, rfl, rfl⟩
theorem fillXorshift128 (n : Lanes) : Statement (.fillXorshift128 n) := by cases n <;> exact ⟨rfl, rfl, rfl, rfl⟩
theorem fillXorshift128plus (n : Lanes) : Statement (.fillXorshift128plus n) := by cases n <;> exact ⟨rfl, rfl, rfl, rfl⟩
theorem fillXoroshiro128ss (n : Lanes) : Statement (.fillXoroshiro128ss n) := by cases n <;> exact ⟨rfl, rfl, rfl, rfl⟩
theorem fillXoshiro128ss (n : Lanes) : Statement (.fillXoshiro128ss n) := by cases n <;> exact ⟨rfl, rfl, rfl, rfl⟩
theorem fillXoshiro256ss (n : Lanes) : Statement (.fillXoshiro256ss n) := by cases n <;> exact ⟨rfl, rfl, rfl, rfl⟩
theorem fillXoshiro512ss (n : Lanes) : Statement (.fillXoshiro512ss n) := by cases n <;> exact ⟨rfl, rfl, rfl, rfl⟩
theorem fillPcg32 (n : Lanes) : Statement (.fillPcg32 n) := by cases n <;> exact ⟨rfl, rfl, rfl, rfl⟩
theorem fillPcg32Xsh (n : Lanes) : Statement (.fillPcg32Xsh n) := by cases n <;> exact ⟨rfl, rfl, rfl, rfl⟩
theorem fillPcg32Xsl (n : Lanes) : Statement (.fillPcg32Xsl n) := by cases n <;> exact ⟨rfl, rfl, rfl, rfl⟩
theorem fillLcg32 (n : Lanes) : Statement (.fillLcg32 n) := by cases n <;> exact ⟨rfl, rfl, rfl, rfl⟩
theorem fillLcg16 (n : Lanes) : Statement (.fillLcg16 n) := by cases n <;> exact ⟨rfl, rfl, rfl, rfl⟩
theorem fillJsf32 (n : Lanes) : Statement (.fillJsf32 n) := by cases n <;> exact ⟨rfl, rfl, rfl, rfl⟩
theorem fillJsf64 (n : Lanes) : Statement (.fillJsf64 n) := by cases n <;> exact ⟨rfl, rfl, rfl, rfl⟩
theorem fillLfsr113 (n : Lanes) : Statement (.fillLfsr113 n) := by cases n <;> exact ⟨rfl, rfl, rfl, rfl⟩
theorem fillLfsr258 (n : Lanes) : Statement (.fillLfsr258 n) := by cases n <;> exact ⟨rfl, rfl, rfl, rfl⟩
theorem fillMwc (n : Lanes) : Statement (.fillMwc n) := by cases n <;> exact ⟨rfl, rfl, rfl, rfl⟩
theorem fillSfc64 (n : Lanes) : Statement (.fillSfc64 n) := by cases n <;> exact ⟨rfl, rfl, rfl, rfl⟩
theorem fillSfc32 (n : Lanes) : Statement (.fillSfc32 n) := by cases n <;> exact ⟨rfl, rfl, rfl, rfl⟩
theorem fillSfc16 (n : Lanes) : Statement (.fillSfc16 n) := by cases n <;> exact ⟨rfl, rfl, rfl, rfl⟩
theorem fillXsm32 (n : Lanes) : Statement (.fillXsm32 n) := by cases n <;> exact ⟨rfl, rfl, rfl, rfl⟩
theorem fillXsm64 (n : Lanes) : Statement (.fillXsm64 n) := by cases n <;> exact ⟨rfl, rfl, rfl, rfl⟩
theorem fillChacha4 : Statement .fillChacha4 := ⟨rfl, rfl, rfl, rfl⟩
theorem fillChacha4f : Statement .fillChacha4f := ⟨rfl, rfl, rfl, rfl⟩
theorem fillArs5 : Statement .fillArs5 := ⟨rfl, rfl, rfl, rfl⟩
theorem fillArs7 : Statement .fillArs7 := ⟨rfl, rfl, rfl, rfl⟩
theorem fillAesrand : Statement .fillAesrand := ⟨rfl, rfl, rfl, rfl⟩
theorem fillSselcg : Statement .fillSselcg := ⟨rfl, rfl, rfl, rfl⟩

end Sys2Proof.Laws.EncodeFields
end

