-- ==== Sys2Proof/Laws/Vectors.lean ====
section
/-! SUPPORT. The lane-vector operations on vectors that are given lane by lane (`ls.map f`): each acts on every lane by
itself (40_lane_vector.md R145). And the byte images: their length, their bytes, and that `le` undoes them
(20_memory.md R63). -/

namespace Sys2Proof.Machine

/-! ## Operations on mapped vectors -/

/-- A binary operation lane by lane, on two vectors read off one list of lanes. -/
theorem zipWith_map_map {α β γ δ : Type} (op : β → γ → δ) (f : α → β) (g : α → γ) (ls : List α) :
    List.zipWith op (ls.map f) (ls.map g) = ls.map fun l => op (f l) (g l) := by
  induction ls with
  | nil => rfl
  | cons _ _ ih => simp [ih]

variable {α : Type} {W V : Nat} (f g : α → BitVec W) (ls : List α)

@[simp] theorem vadd_map : vadd (ls.map f) (ls.map g) = ls.map fun l => f l + g l := zipWith_map_map _ f g ls
@[simp] theorem vsub_map : vsub (ls.map f) (ls.map g) = ls.map fun l => f l - g l := zipWith_map_map _ f g ls
@[simp] theorem vmul_map : vmul (ls.map f) (ls.map g) = ls.map fun l => f l * g l := zipWith_map_map _ f g ls
@[simp] theorem vxor_map : vxor (ls.map f) (ls.map g) = ls.map fun l => f l ^^^ g l := zipWith_map_map _ f g ls
@[simp] theorem vand_map : vand (ls.map f) (ls.map g) = ls.map fun l => f l &&& g l := zipWith_map_map _ f g ls
@[simp] theorem vor_map : vor (ls.map f) (ls.map g) = ls.map fun l => f l ||| g l := zipWith_map_map _ f g ls
theorem vsplat_map (c : BitVec V) : vsplat c (ls.map f) = ls.map fun _ => c := by
  simp [vsplat, Function.comp_def]
@[simp] theorem vaddc_map (c : BitVec W) : vaddc (ls.map f) c = ls.map fun l => f l + c := by
  rw [vaddc, vsplat_map, vadd_map]
@[simp] theorem vmulc_map (c : BitVec W) : vmulc (ls.map f) c = ls.map fun l => f l * c := by
  rw [vmulc, vsplat_map, vmul_map]
@[simp] theorem vandc_map (c : BitVec W) : vandc (ls.map f) c = ls.map fun l => f l &&& c := by
  rw [vandc, vsplat_map, vand_map]
@[simp] theorem vorc_map (c : BitVec W) : vorc (ls.map f) c = ls.map fun l => f l ||| c := by
  rw [vorc, vsplat_map, vor_map]
@[simp] theorem vshl_map (k : Nat) (h : k < W) : vshl (ls.map f) k h = ls.map fun l => f l <<< k := by
  simp [vshl, Function.comp_def]
@[simp] theorem vshr_map (k : Nat) (h : k < W) : vshr (ls.map f) k h = ls.map fun l => f l >>> k := by
  simp [vshr, Function.comp_def]
@[simp] theorem vtrunc_map (M : Nat) : vtrunc M (ls.map f) = ls.map fun l => (f l).setWidth M := by
  simp [vtrunc, Function.comp_def]

/-- `rotl` is Lean's own rotate left (40_lane_vector.md R129). -/
theorem rotl_eq_rotateLeft {W : Nat} (x : BitVec W) (k : Nat) : rotl x k = x.rotateLeft k := by
  unfold rotl
  rw [BitVec.rotateLeft_def]
  split
  · next h => simp [h, BitVec.ushiftRight_eq_zero]
  · rfl

/-- `rotr` is Lean's own rotate right (40_lane_vector.md R130). -/
theorem rotr_eq_rotateRight {W : Nat} (x : BitVec W) (k : Nat) : rotr x k = x.rotateRight k := by
  unfold rotr
  rw [rotl_eq_rotateLeft, BitVec.rotateLeft_def, BitVec.rotateRight_def]
  rcases Nat.eq_zero_or_pos W with rfl | hW
  · simp [BitVec.eq_nil x]
  · by_cases h : k % W = 0
    · simp [h, Nat.mod_self, BitVec.ushiftRight_eq_zero]
    · have hlt := Nat.mod_lt k hW
      rw [Nat.mod_mod, Nat.mod_eq_of_lt (by omega : W - k % W < W)]
      rw [show W - (W - k % W) = k % W by omega, BitVec.or_comm]

@[simp] theorem vrotl_map (k : Nat) : vrotl (ls.map f) k = ls.map fun l => (f l).rotateLeft k := by
  simp [vrotl, Function.comp_def, rotl_eq_rotateLeft]

/-- The output scrambler, lane by lane (41_xorshift_xoshiro.md R174). -/
@[simp] theorem starstar_map : starstar (ls.map f) = ls.map fun l => (f l * 5).rotateLeft 7 * 9 := by
  simp [starstar]

/-! ## Byte images (20_memory.md R63) -/

@[simp] theorem laneImage_length {W : Nat} (x : BitVec W) : (laneImage x).length = W / 8 := by simp [laneImage]

@[simp] theorem image_length {W : Nat} (v : Vec W) : (image v).length = v.length * (W / 8) := by
  simp [image, List.length_flatMap]

@[simp] theorem image_nil {W : Nat} : image ([] : Vec W) = [] := rfl

theorem image_cons {W : Nat} (x : BitVec W) (v : Vec W) : image (x :: v) = laneImage x ++ image v := rfl

/-- Byte i of a lane's image (20_memory.md R63). -/
theorem laneImage_getElem? {W : Nat} (x : BitVec W) {i : Nat} (h : i < W / 8) :
    (laneImage x)[i]? = some (x.extractLsb' (8 * i) 8) := by
  simp [laneImage, h, byteAt]

/-- Byte i of lane j of an image (20_memory.md R63). -/
theorem image_getElem? {W : Nat} (v : Vec W) {j i : Nat} {x : BitVec W} (hj : v[j]? = some x) (hi : i < W / 8) :
    (image v)[j * (W / 8) + i]? = some (x.extractLsb' (8 * i) 8) := by
  induction v generalizing j with
  | nil => simp at hj
  | cons y v ih =>
    rw [image_cons]
    cases j with
    | zero =>
      simp only [List.getElem?_cons_zero, Option.some.injEq] at hj
      subst hj
      rw [List.getElem?_append_left (by simpa using hi)]
      simpa using laneImage_getElem? y hi
    | succ j =>
      rw [List.getElem?_cons_succ] at hj
      rw [List.getElem?_append_right (by simp [Nat.succ_mul]; omega)]
      rw [show (j + 1) * (W / 8) + i - (laneImage y).length = j * (W / 8) + i by simp [Nat.succ_mul]; omega]
      exact ih hj

/-- A value's bits, from its bytes (20_memory.md R63). -/
theorem leWord_getLsbD (W : Nat) (bytes : List Byte) (i : Nat) :
    (leWord W bytes).getLsbD i = (decide (i < W) && (bytes.getD (i / 8) 0).getLsbD (i % 8)) := by
  induction bytes generalizing i with
  | nil => simp [leWord]
  | cons b bs ih =>
    have step : leWord W (b :: bs) = (leWord W bs <<< 8) ||| b.setWidth W := rfl
    rw [step, BitVec.getLsbD_or, BitVec.getLsbD_shiftLeft, BitVec.getLsbD_setWidth, ih]
    by_cases hW : i < W
    · by_cases h8 : i < 8
      · simp [hW, h8, Nat.div_eq_of_lt h8, Nat.mod_eq_of_lt h8]
      · have h1 : i / 8 = (i - 8) / 8 + 1 := by omega
        have h2 : (i - 8) % 8 = i % 8 := by omega
        have h3 : b.getLsbD i = false := BitVec.getLsbD_of_ge _ _ (by omega)
        have h4 : i - 8 < W := by omega
        simp [hW, h8, h1, h2, h3, h4]
    · simp [hW]

/-- A value is the little-endian word of its image (20_memory.md R63). -/
theorem leWord_laneImage {W : Nat} (hW : W % 8 = 0) (x : BitVec W) : leWord W (laneImage x) = x := by
  apply BitVec.eq_of_getLsbD_eq
  intro i hi
  rw [leWord_getLsbD]
  have hd : i / 8 < W / 8 := by omega
  simp only [List.getD_eq_getElem?_getD, laneImage_getElem? x hd, Option.getD_some, BitVec.getLsbD_extractLsb', hi,
    decide_true, Bool.true_and, Nat.mod_lt i (by decide : 8 > 0)]
  rw [Nat.div_add_mod]

/-- The image of a little-endian word of the right number of bytes (20_memory.md R63). -/
theorem laneImage_leWord {W : Nat} (bytes : List Byte) (h : bytes.length = W / 8) :
    laneImage (leWord W bytes) = bytes := by
  apply List.ext_getElem?
  intro i
  by_cases hi : i < W / 8
  · rw [laneImage_getElem? _ hi, List.getElem?_eq_getElem (by omega)]
    congr 1
    apply BitVec.eq_of_getLsbD_eq
    intro b hb
    rw [BitVec.getLsbD_extractLsb', leWord_getLsbD]
    have h1 : (8 * i + b) / 8 = i := by omega
    have h2 : (8 * i + b) % 8 = b := by omega
    have h3 : 8 * i + b < W := by omega
    simp [hb, h1, h2, h3, List.getD_eq_getElem?_getD, List.getElem?_eq_getElem (show i < bytes.length by omega)]
  · rw [List.getElem?_eq_none (by simpa using hi), List.getElem?_eq_none (by omega)]

@[simp] theorem le_length (W N : Nat) (bytes : List Byte) : (le W N bytes).length = N := by simp [le]

/-- `le`, one lane at a time. -/
theorem le_succ (W N : Nat) (bytes : List Byte) :
    le W (N + 1) bytes = leWord W (bytes.take (W / 8)) :: le W N (bytes.drop (W / 8)) := by
  simp only [le, List.range_succ_eq_map, List.map_cons, List.map_map, Nat.zero_mul, List.drop_zero]
  congr 1
  apply List.map_congr_left
  intro j _
  simp only [Function.comp_apply, List.drop_drop]
  rw [show W / 8 + j * (W / 8) = (j + 1) * (W / 8) by ring]

/-- `le` undoes `image`, whatever bytes follow (20_memory.md R63). -/
theorem le_image_append {W : Nat} (hW : W % 8 = 0) (v : Vec W) (rest : List Byte) :
    le W v.length (image v ++ rest) = v := by
  induction v with
  | nil => rfl
  | cons x v ih =>
    rw [List.length_cons, le_succ, image_cons, List.append_assoc]
    rw [List.take_left' (by simp), List.drop_left' (by simp), leWord_laneImage hW, ih]

/-- `image` undoes `le` on the right number of bytes (20_memory.md R63). -/
theorem image_le {W : Nat} (N : Nat) (bytes : List Byte) (h : bytes.length = N * (W / 8)) :
    image (le W N bytes) = bytes := by
  induction N generalizing bytes with
  | zero => simp at h; simp [le, h]
  | succ N ih =>
    rw [Nat.succ_mul] at h
    rw [le_succ, image_cons, laneImage_leWord _ (by rw [List.length_take]; omega),
      ih _ (by rw [List.length_drop]; omega), List.take_append_drop]

/-! ## Seed images (20_memory.md R64) -/

/-- The words a seed image loads are those whose images it is (20_memory.md R64). -/
theorem seedWords_images {W : Nat} (hW : W % 8 = 0) (N : Nat) (ws : List (Vec W)) (rest : List Byte)
    (h : ∀ w ∈ ws, w.length = N) : seedWords W N ws.length (ws.flatMap image ++ rest) = ws := by
  induction ws with
  | nil => rfl
  | cons w ws ih =>
    have hw : w.length = N := h w (by simp)
    simp only [seedWords, List.length_cons, List.range_succ_eq_map, List.map_cons, List.map_map, List.flatMap_cons,
      List.append_assoc]
    congr 1
    · simp only [seedWord, Nat.zero_mul, List.drop_zero]
      rw [← hw]; exact le_image_append hW w _
    · refine Eq.trans ?_ (ih fun x hx => h x (by simp [hx]))
      apply List.map_congr_left
      intro k _
      simp only [Function.comp_apply, seedWord]
      rw [show (k + 1) * (N * (W / 8)) = (image w).length + k * (N * (W / 8)) by rw [image_length, hw]; ring,
        ← List.drop_drop, List.drop_left]

/-- The images of the words of a seed image of the right length are that image (20_memory.md R64). -/
theorem seedWords_image {W : Nat} (N K : Nat) (bytes : List Byte) (h : bytes.length = K * (N * (W / 8))) :
    (seedWords W N K bytes).flatMap image = bytes := by
  induction K generalizing bytes with
  | zero => simp at h; simp [seedWords, h]
  | succ K ih =>
    rw [Nat.succ_mul] at h
    have hd : (bytes.drop (N * (W / 8))).length = K * (N * (W / 8)) := by rw [List.length_drop]; omega
    have := ih _ hd
    simp only [seedWords, List.range_succ_eq_map, List.map_cons, List.map_map, List.flatMap_cons]
    rw [show seedWord W N 0 bytes = le W N bytes by simp [seedWord]]
    have e : image (le W N bytes) = bytes.take (N * (W / 8)) := by
      have h1 : le W N bytes = le W N (bytes.take (N * (W / 8))) := by
        apply List.map_congr_left
        intro j hj
        have hj' : j < N := by simpa using hj
        rw [List.drop_take, List.take_take]
        congr 2
        have : (j + 1) * (W / 8) ≤ N * (W / 8) := Nat.mul_le_mul_right _ hj'
        rw [Nat.succ_mul] at this
        omega
      rw [h1, image_le]
      rw [List.length_take]; omega
    rw [e]
    conv => rhs; rw [← List.take_append_drop (N * (W / 8)) bytes, ← this]
    congr 2
    apply List.map_congr_left
    intro k _
    simp only [Function.comp_apply, seedWord, List.drop_drop]
    rw [show N * (W / 8) + k * (N * (W / 8)) = (k + 1) * (N * (W / 8)) by ring]

@[simp] theorem seedWords_length (W N K : Nat) (b : List Byte) : (seedWords W N K b).length = K := by simp [seedWords]

theorem seedWords_lanes (W N K : Nat) (b : List Byte) : ∀ w ∈ seedWords W N K b, w.length = N := by
  simp [seedWords, seedWord]

end Sys2Proof.Machine
end

