-- ==== Sys2Proof/Laws/Steps.lean ====
section
/-! SUPPORT. The meanings by family: GEN, FILL and the seedings as one definition each, over the family's step or seeding
procedure, so that a proof about every family starts from one equation. And the shapes: what a register of a shape is, and
the lengths of the datapath's results. -/

namespace Sys2Proof.Machine

/-! ## GEN and FILL by family -/

/-- The step of a family (47_control.md R364). -/
def stepOf (p : Params) : Fam → StepFn
  | .xorshift32 => stepXorshift32
  | .xorshift128 => stepXorshift128
  | .xorshift128plus => stepXorshift128plus p
  | .xoroshiro128ss => stepXoroshiro128ss
  | .xoshiro128ss => stepXoshiro128ss
  | .xoshiro256ss => stepXoshiro256ss
  | .xoshiro512ss => stepXoshiro512ss
  | .pcg32 => stepPcg32
  | .pcg32Xsh => stepPcg32Xsh p
  | .pcg32Xsl => stepPcg32Xsl p
  | .lcg32 => stepLcg32 p
  | .lcg16 => stepLcg16 p
  | .jsf32 => stepJsf32
  | .jsf64 => stepJsf64
  | .lfsr113 => stepLfsr113 p
  | .lfsr258 => stepLfsr258 p
  | .mwc => stepMwc p
  | .sfc64 => stepSfc64
  | .sfc32 => stepSfc32
  | .sfc16 => stepSfc16
  | .xsm32 => stepXsm32 p
  | .xsm64 => stepXsm64 p
  | .chacha4 => stepChacha4 p
  | .chacha4f => stepChacha4f p
  | .ars5 => stepArs5 p
  | .ars7 => stepArs7 p
  | .aesrand => stepAesrand p
  | .sselcg => stepSselcg p

theorem exec_gen (f : Fam) (n : Lanes) (s : State) :
    exec (Instr.gen f n) s = .next (s.genWith (Instr.gen f n) (cfgOf f n) (stepOf s.par f)) := by
  cases f <;> rfl

theorem exec_fill (f : Fam) (n : Lanes) (s : State) :
    exec (Instr.fill f n) s = .next (s.fillWith (Instr.fill f n) (cfgOf f n) (stepOf s.par f)) := by
  cases f <;> rfl

/-! ## The seedings by family -/

/-- The seeding procedure of a family (20_memory.md R64); for the LFSR families the one SEED_FIXED uses. -/
def seedProcOf (p : Params) (f : Fam) (n : Lanes) : SeedProc :=
  match f with
  | .xorshift32 => procZero32 1 n
  | .xorshift128 => procZero32 4 n
  | .xorshift128plus => procZero64 2 n
  | .xoroshiro128ss => procZero64 2 n
  | .xoshiro128ss => procZero32 4 n
  | .xoshiro256ss => procZero64 4 n
  | .xoshiro512ss => procZero64 8 n
  | .pcg32 | .pcg32Xsh | .pcg32Xsl | .lcg32 => procInc64 n
  | .lcg16 => procInc32 n
  | .jsf32 => procJsf32 p n
  | .jsf64 => procJsf64 p n
  | .lfsr113 => procLfsr113 p n
  | .lfsr258 => procLfsr258 p n
  | .mwc => procMwc p n
  | .sfc64 => procSfc64 n
  | .sfc32 => procSfc32 n
  | .sfc16 => procSfc16 n
  | .xsm32 => procXsm32 p n
  | .xsm64 => procXsm64 p n
  | .chacha4 | .chacha4f => procChacha
  | .ars5 | .ars7 => procArs
  | .aesrand => procAesrand
  | .sselcg => procSselcg

theorem exec_seedRng {f : Fam} (h1 : f ≠ .lfsr113) (h2 : f ≠ .lfsr258) (n : Lanes) (s : State) :
    exec (Instr.seedRng f n) s =
      .next (s.seedRngWith (Instr.seedRng f n) (cfgOf f n) (seedProcOf s.par f n)) := by
  cases f <;> first | rfl | contradiction

theorem exec_seedFixed (f : Fam) (n : Lanes) (s : State) :
    exec (Instr.seedFixed f n) s =
      .next (s.seedFixedWith (Instr.seedFixed f n) f (cfgOf f n) (seedProcOf s.par f n)) := by
  cases f <;> rfl

theorem exec_seedBlocks_unsupported {f : Fam} (h1 : f ≠ .xoroshiro128ss) (h2 : f ≠ .xoshiro256ss) (n : Lanes) (s : State) :
    exec (Instr.seedBlocks f n) s = .next (s.seedBlocksUnsupported (Instr.seedBlocks f n)) := by
  cases f <;> first | rfl | contradiction

/-- Every command is a control command, or one of the five operations on a family that admits the lane count or not. -/
theorem Instr_cases (i : Instr) :
    i = .nop ∨ i = .clrerr ∨ i = .reset ∨ ∃ f n, i = Instr.seedRng f n ∨ i = Instr.seedBlocks f n ∨
      i = Instr.seedFixed f n ∨ i = Instr.gen f n ∨ i = Instr.fill f n := by
  have h : i = .nop ∨ i = .clrerr ∨ i = .reset ∨ ∃ o f n, i.parts = (o, some (f, n)) ∧
      (o = .seedRng ∧ i = Instr.seedRng f n ∨ o = .seedBlocks ∧ i = Instr.seedBlocks f n ∨
        o = .seedFixed ∧ i = Instr.seedFixed f n ∨ o = .gen ∧ i = Instr.gen f n ∨ o = .fill ∧ i = Instr.fill f n) := by
    cases i <;> first
      | exact .inl rfl
      | exact .inr (.inl rfl)
      | exact .inr (.inr (.inl rfl))
      | exact .inr (.inr (.inr ⟨_, _, _, rfl, .inl ⟨rfl, rfl⟩⟩))
      | exact .inr (.inr (.inr ⟨_, _, _, rfl, .inr (.inl ⟨rfl, rfl⟩)⟩))
      | exact .inr (.inr (.inr ⟨_, _, _, rfl, .inr (.inr (.inl ⟨rfl, rfl⟩))⟩))
      | exact .inr (.inr (.inr ⟨_, _, _, rfl, .inr (.inr (.inr (.inl ⟨rfl, rfl⟩)))⟩))
      | exact .inr (.inr (.inr ⟨_, _, _, rfl, .inr (.inr (.inr (.inr ⟨rfl, rfl⟩)))⟩))
  rcases h with h | h | h | ⟨o, f, n, -, h⟩
  · exact .inl h
  · exact .inr (.inl h)
  · exact .inr (.inr (.inl h))
  · exact .inr (.inr (.inr ⟨f, n, by rcases h with h | h | h | h | h <;> simp [h.2]⟩))

@[simp] theorem wf_gen (f : Fam) (n : Lanes) : (Instr.gen f n).wf = f.admits n := by cases f <;> rfl
@[simp] theorem wf_fill (f : Fam) (n : Lanes) : (Instr.fill f n).wf = f.admits n := by cases f <;> rfl
@[simp] theorem wf_seedRng (f : Fam) (n : Lanes) : (Instr.seedRng f n).wf = f.admits n := by cases f <;> rfl
@[simp] theorem wf_seedBlocks (f : Fam) (n : Lanes) : (Instr.seedBlocks f n).wf = f.admits n := by cases f <;> rfl
@[simp] theorem wf_seedFixed (f : Fam) (n : Lanes) : (Instr.seedFixed f n).wf = f.admits n := by cases f <;> rfl

theorem chunkSize_pos (f : Fam) (n : Lanes) : 0 < chunkSize f n := by cases f <;> cases n <;> decide

/-! ## Shapes -/

/-- A register of N lanes of W bits, by its width. -/
theorem LaneVec.Shaped.eq {W N : Nat} {w : LaneVec} (h : w.Shaped W N) :
    (W = 16 ∧ ∃ v, w = .u16 v ∧ v.length = N) ∨ (W = 32 ∧ ∃ v, w = .u32 v ∧ v.length = N) ∨
    (W = 64 ∧ ∃ v, w = .u64 v ∧ v.length = N) ∨ (W = 128 ∧ ∃ v, w = .u128 v ∧ v.length = N) := by
  cases w <;> obtain ⟨rfl, h⟩ := h <;> simp [h]

/-- Registers of one width, read off as one list of lane vectors. -/
theorem shaped16 {N : Nat} {S : List LaneVec} (h : ∀ w ∈ S, w.Shaped 16 N) :
    ∃ vs : List (Vec 16), S = vs.map .u16 ∧ ∀ v ∈ vs, v.length = N := by
  induction S with
  | nil => exact ⟨[], rfl, by simp⟩
  | cons w S ih =>
    obtain ⟨vs, rfl, hv⟩ := ih fun x hx => h x (by simp [hx])
    rcases (h w (by simp)).eq with ⟨hw, v, rfl, hl⟩ | ⟨hw, -⟩ | ⟨hw, -⟩ | ⟨hw, -⟩ <;> simp at hw
    exact ⟨v :: vs, rfl, by simpa [hl] using hv⟩

@[inherit_doc shaped16]
theorem shaped32 {N : Nat} {S : List LaneVec} (h : ∀ w ∈ S, w.Shaped 32 N) :
    ∃ vs : List (Vec 32), S = vs.map .u32 ∧ ∀ v ∈ vs, v.length = N := by
  induction S with
  | nil => exact ⟨[], rfl, by simp⟩
  | cons w S ih =>
    obtain ⟨vs, rfl, hv⟩ := ih fun x hx => h x (by simp [hx])
    rcases (h w (by simp)).eq with ⟨hw, -⟩ | ⟨hw, v, rfl, hl⟩ | ⟨hw, -⟩ | ⟨hw, -⟩ <;> simp at hw
    exact ⟨v :: vs, rfl, by simpa [hl] using hv⟩

@[inherit_doc shaped16]
theorem shaped64 {N : Nat} {S : List LaneVec} (h : ∀ w ∈ S, w.Shaped 64 N) :
    ∃ vs : List (Vec 64), S = vs.map .u64 ∧ ∀ v ∈ vs, v.length = N := by
  induction S with
  | nil => exact ⟨[], rfl, by simp⟩
  | cons w S ih =>
    obtain ⟨vs, rfl, hv⟩ := ih fun x hx => h x (by simp [hx])
    rcases (h w (by simp)).eq with ⟨hw, -⟩ | ⟨hw, -⟩ | ⟨hw, v, rfl, hl⟩ | ⟨hw, -⟩ <;> simp at hw
    exact ⟨v :: vs, rfl, by simpa [hl] using hv⟩

@[inherit_doc shaped16]
theorem shaped128 {N : Nat} {S : List LaneVec} (h : ∀ w ∈ S, w.Shaped 128 N) :
    ∃ vs : List (Vec 128), S = vs.map .u128 ∧ ∀ v ∈ vs, v.length = N := by
  induction S with
  | nil => exact ⟨[], rfl, by simp⟩
  | cons w S ih =>
    obtain ⟨vs, rfl, hv⟩ := ih fun x hx => h x (by simp [hx])
    rcases (h w (by simp)).eq with ⟨hw, -⟩ | ⟨hw, -⟩ | ⟨hw, -⟩ | ⟨hw, v, rfl, hl⟩ <;> simp at hw
    exact ⟨v :: vs, rfl, by simpa [hl] using hv⟩

theorem vector4_toList {α : Type} (v : Vector α 4) : v.toList = [v[0], v[1], v[2], v[3]] := by
  obtain ⟨⟨l⟩, hl⟩ := v
  match l, hl with
  | [_, _, _, _], _ => rfl

theorem vector5_toList {α : Type} (v : Vector α 5) : v.toList = [v[0], v[1], v[2], v[3], v[4]] := by
  obtain ⟨⟨l⟩, hl⟩ := v
  match l, hl with
  | [_, _, _, _, _], _ => rfl

/-! ## The lengths of results (40_lane_vector.md R145) -/

section
variable {W V : Nat} (a b : Vec W)
theorem vadd_length : (vadd a b).length = min a.length b.length := by simp [vadd]
theorem vsub_length : (vsub a b).length = min a.length b.length := by simp [vsub]
theorem vmul_length : (vmul a b).length = min a.length b.length := by simp [vmul]
theorem vxor_length : (vxor a b).length = min a.length b.length := by simp [vxor]
theorem vand_length : (vand a b).length = min a.length b.length := by simp [vand]
theorem vshl_length (k : Nat) (h : k < W) : (vshl a k h).length = a.length := by simp [vshl]
theorem vshr_length (k : Nat) (h : k < W) : (vshr a k h).length = a.length := by simp [vshr]
theorem vrotl_length (k : Nat) : (vrotl a k).length = a.length := by simp [vrotl]
theorem vsplat_length (c : BitVec W) (a : Vec V) : (vsplat c a).length = a.length := by simp [vsplat]
theorem vtrunc_length (M : Nat) : (vtrunc M a).length = a.length := by simp [vtrunc]
theorem vzext_length (M : Nat) : (vzext M a).length = a.length := by simp [vzext]
theorem vrotrv_length (r : Vec V) : (vrotrv a r).length = min a.length r.length := by simp [vrotrv]
theorem vwmul32_length (a b : Vec 64) : (vwmul32 a b).length = min a.length b.length := by simp [vwmul32]
end

/-- The linear congruential step, on vectors given lane by lane. Stated for every multiplier: the kernel is not to
compute with a particular one (42_pcg_lcg.md R200). -/
theorem lcgAdvance_map (m : BitVec 64) (ls : List (Ref.Two 64)) :
    [LaneVec.u64 (lcgAdvance m (ls.map (·.a)) (ls.map (·.b))), .u64 (ls.map (·.b))] = pair64 (ls.map (Ref.lcg m)) := by
  simp [lcgAdvance, pair64, Ref.lcg, Function.comp_def]

end Sys2Proof.Machine
end

