-- ==== Sys2Proof/Laws/Seeding.lean ====
section
/-! SUPPORT. The seeding procedures of the machine against the rules of 45_seeding.md as Safety.lean writes them: the length,
the words a seed image loads, and the validator's test. -/

namespace Sys2Proof.Machine

/-! ## Seed images (20_memory.md R64) -/

/-- The words a seed image of the right length loads, from both sides (20_memory.md R64). -/
theorem seedWords_iff {W : Nat} (hW : W % 8 = 0) (N K : Nat) (bytes : List Byte) (ws : List (Vec W)) :
    (bytes.length = K * (N * (W / 8)) ∧ seedWords W N K bytes = ws) ↔
      ws.length = K ∧ (∀ w ∈ ws, w.length = N) ∧ bytes = ws.flatMap image := by
  constructor
  · rintro ⟨h, rfl⟩
    exact ⟨by simp, seedWords_lanes W N K bytes, (seedWords_image N K bytes h).symm⟩
  · rintro ⟨rfl, hw, rfl⟩
    refine ⟨?_, by simpa using seedWords_images hW N ws [] hw⟩
    clear hW
    induction ws with
    | nil => simp
    | cons w ws ih =>
      simp only [List.flatMap_cons, List.length_append, List.length_cons, image_length, hw w (by simp),
        ih fun x hx => hw x (by simp [hx]), Nat.succ_mul]
      omega

theorem stateBytes_u16 (vs : List (Vec 16)) : stateBytes (vs.map .u16) = vs.flatMap image := by
  simp [stateBytes, List.flatMap_map, LaneVec.image]
theorem stateBytes_u32 (vs : List (Vec 32)) : stateBytes (vs.map .u32) = vs.flatMap image := by
  simp [stateBytes, List.flatMap_map, LaneVec.image]
theorem stateBytes_u64 (vs : List (Vec 64)) : stateBytes (vs.map .u64) = vs.flatMap image := by
  simp [stateBytes, List.flatMap_map, LaneVec.image]
theorem stateBytes_u128 (vs : List (Vec 128)) : stateBytes (vs.map .u128) = vs.flatMap image := by
  simp [stateBytes, List.flatMap_map, LaneVec.image]

/-- K registers of N 16-bit lanes as a seed image loads them (20_memory.md R64). -/
theorem load16_iff (K N : Nat) (b : List Byte) (S : List LaneVec) :
    (b.length = K * (N * 2) ∧ load16 K N b = S) ↔
      (S.length = K ∧ ∀ w ∈ S, w.Shaped 16 N) ∧ b = stateBytes S := by
  constructor
  · rintro ⟨h, rfl⟩
    obtain ⟨h1, h2, h3⟩ := (seedWords_iff (W := 16) (by decide) N K b _).1 ⟨h, rfl⟩
    refine ⟨⟨by simp [load16], ?_⟩, by rw [load16, stateBytes_u16, ← h3]⟩
    intro w hw
    obtain ⟨v, hv, rfl⟩ := List.mem_map.1 hw
    exact ⟨rfl, h2 v hv⟩
  · rintro ⟨⟨hl, hs⟩, rfl⟩
    obtain ⟨vs, rfl, hv⟩ := shaped16 hs
    obtain ⟨h1, h2⟩ := (seedWords_iff (W := 16) (by decide) N K (vs.flatMap image) vs).2 ⟨by simpa using hl, hv, rfl⟩
    rw [stateBytes_u16, load16]
    exact ⟨h1, by rw [h2]⟩

@[inherit_doc load16_iff]
theorem load32_iff (K N : Nat) (b : List Byte) (S : List LaneVec) :
    (b.length = K * (N * 4) ∧ load32 K N b = S) ↔
      (S.length = K ∧ ∀ w ∈ S, w.Shaped 32 N) ∧ b = stateBytes S := by
  constructor
  · rintro ⟨h, rfl⟩
    obtain ⟨h1, h2, h3⟩ := (seedWords_iff (W := 32) (by decide) N K b _).1 ⟨h, rfl⟩
    refine ⟨⟨by simp [load32], ?_⟩, by rw [load32, stateBytes_u32, ← h3]⟩
    intro w hw
    obtain ⟨v, hv, rfl⟩ := List.mem_map.1 hw
    exact ⟨rfl, h2 v hv⟩
  · rintro ⟨⟨hl, hs⟩, rfl⟩
    obtain ⟨vs, rfl, hv⟩ := shaped32 hs
    obtain ⟨h1, h2⟩ := (seedWords_iff (W := 32) (by decide) N K (vs.flatMap image) vs).2 ⟨by simpa using hl, hv, rfl⟩
    rw [stateBytes_u32, load32]
    exact ⟨h1, by rw [h2]⟩

@[inherit_doc load16_iff]
theorem load64_iff (K N : Nat) (b : List Byte) (S : List LaneVec) :
    (b.length = K * (N * 8) ∧ load64 K N b = S) ↔
      (S.length = K ∧ ∀ w ∈ S, w.Shaped 64 N) ∧ b = stateBytes S := by
  constructor
  · rintro ⟨h, rfl⟩
    obtain ⟨h1, h2, h3⟩ := (seedWords_iff (W := 64) (by decide) N K b _).1 ⟨h, rfl⟩
    refine ⟨⟨by simp [load64], ?_⟩, by rw [load64, stateBytes_u64, ← h3]⟩
    intro w hw
    obtain ⟨v, hv, rfl⟩ := List.mem_map.1 hw
    exact ⟨rfl, h2 v hv⟩
  · rintro ⟨⟨hl, hs⟩, rfl⟩
    obtain ⟨vs, rfl, hv⟩ := shaped64 hs
    obtain ⟨h1, h2⟩ := (seedWords_iff (W := 64) (by decide) N K (vs.flatMap image) vs).2 ⟨by simpa using hl, hv, rfl⟩
    rw [stateBytes_u64, load64]
    exact ⟨h1, by rw [h2]⟩

@[inherit_doc load16_iff]
theorem load128_iff (K : Nat) (b : List Byte) (S : List LaneVec) :
    (b.length = K * (1 * 16) ∧ load128 K b = S) ↔
      (S.length = K ∧ ∀ w ∈ S, w.Shaped 128 1) ∧ b = stateBytes S := by
  constructor
  · rintro ⟨h, rfl⟩
    obtain ⟨h1, h2, h3⟩ := (seedWords_iff (W := 128) (by decide) 1 K b _).1 ⟨h, rfl⟩
    refine ⟨⟨by simp [load128], ?_⟩, by rw [load128, stateBytes_u128, ← h3]⟩
    intro w hw
    obtain ⟨v, hv, rfl⟩ := List.mem_map.1 hw
    exact ⟨rfl, h2 v hv⟩
  · rintro ⟨⟨hl, hs⟩, rfl⟩
    obtain ⟨vs, rfl, hv⟩ := shaped128 hs
    obtain ⟨h1, h2⟩ := (seedWords_iff (W := 128) (by decide) 1 K (vs.flatMap image) vs).2 ⟨by simpa using hl, hv, rfl⟩
    rw [stateBytes_u128, load128]
    exact ⟨h1, by rw [h2]⟩

/-! ## Two and four words, lane by lane -/

/-- Two vectors of one length are two columns of one list of lanes. -/
theorem two_columns {W : Nat} (x y : Vec W) (h : x.length = y.length) :
    ∃ ls : List (Ref.Two W), ls.length = x.length ∧ x = ls.map (·.a) ∧ y = ls.map (·.b) := by
  induction x generalizing y with
  | nil => exact ⟨[], rfl, rfl, by simpa using h.symm⟩
  | cons a x ih =>
    match y, h with
    | b :: y, h =>
      obtain ⟨ls, h1, h2, h3⟩ := ih y (by simpa using h)
      exact ⟨⟨a, b⟩ :: ls, by simp [h1], by simp [h2], by simp [h3]⟩

/-- Four vectors of one length are four columns of one list of lanes. -/
theorem four_columns {W : Nat} (x y z w : Vec W) (h1 : x.length = y.length) (h2 : x.length = z.length)
    (h3 : x.length = w.length) :
    ∃ ls : List (Ref.Four W), ls.length = x.length ∧ x = ls.map (·.a) ∧ y = ls.map (·.b) ∧ z = ls.map (·.c) ∧
      w = ls.map (·.d) := by
  induction x generalizing y z w with
  | nil =>
    refine ⟨[], rfl, rfl, ?_, ?_, ?_⟩
    · simpa using h1.symm
    · simpa using h2.symm
    · simpa using h3.symm
  | cons a x ih =>
    match y, h1, z, h2, w, h3 with
    | b :: y, h1, c :: z, h2, d :: w, h3 =>
      obtain ⟨ls, h, e1, e2, e3, e4⟩ := ih y z w (by simpa using h1) (by simpa using h2) (by simpa using h3)
      exact ⟨⟨a, b, c, d⟩ :: ls, by simp [h], by simp [e1], by simp [e2], by simp [e3], by simp [e4]⟩

/-- Two registers of N 64-bit lanes, lane by lane. -/
theorem shaped_pair64 {N : Nat} {S : List LaneVec} :
    (S.length = 2 ∧ ∀ w ∈ S, w.Shaped 64 N) ↔ ∃ ls : List (Ref.Two 64), ls.length = N ∧ S = pair64 ls := by
  constructor
  · rintro ⟨hl, hs⟩
    obtain ⟨vs, rfl, hv⟩ := shaped64 hs
    match vs, hl with
    | [x, y], _ =>
      obtain ⟨ls, h, rfl, rfl⟩ := two_columns x y (by rw [hv x (by simp), hv y (by simp)])
      exact ⟨ls, by rw [h, hv _ (List.mem_cons_self ..)], rfl⟩
  · rintro ⟨ls, rfl, rfl⟩; simp [pair64, LaneVec.Shaped]

@[inherit_doc shaped_pair64]
theorem shaped_pair32 {N : Nat} {S : List LaneVec} :
    (S.length = 2 ∧ ∀ w ∈ S, w.Shaped 32 N) ↔ ∃ ls : List (Ref.Two 32), ls.length = N ∧ S = pair32 ls := by
  constructor
  · rintro ⟨hl, hs⟩
    obtain ⟨vs, rfl, hv⟩ := shaped32 hs
    match vs, hl with
    | [x, y], _ =>
      obtain ⟨ls, h, rfl, rfl⟩ := two_columns x y (by rw [hv x (by simp), hv y (by simp)])
      exact ⟨ls, by rw [h, hv _ (List.mem_cons_self ..)], rfl⟩
  · rintro ⟨ls, rfl, rfl⟩; simp [pair32, LaneVec.Shaped]

/-- Four registers of N 32-bit lanes, lane by lane. -/
theorem shaped_quad32 {N : Nat} {S : List LaneVec} :
    (S.length = 4 ∧ ∀ w ∈ S, w.Shaped 32 N) ↔ ∃ ls : List (Ref.Four 32), ls.length = N ∧ S = quad32 ls := by
  constructor
  · rintro ⟨hl, hs⟩
    obtain ⟨vs, rfl, hv⟩ := shaped32 hs
    match vs, hl with
    | [x, y, z, w], _ =>
      obtain ⟨ls, h, rfl, rfl, rfl, rfl⟩ := four_columns x y z w (by rw [hv x (by simp), hv y (by simp)])
        (by rw [hv x (by simp), hv z (by simp)]) (by rw [hv x (by simp), hv w (by simp)])
      exact ⟨ls, by rw [h, hv _ (List.mem_cons_self ..)], rfl⟩
  · rintro ⟨ls, rfl, rfl⟩; simp [quad32, LaneVec.Shaped]

@[inherit_doc shaped_quad32]
theorem shaped_quad64 {N : Nat} {S : List LaneVec} :
    (S.length = 4 ∧ ∀ w ∈ S, w.Shaped 64 N) ↔ ∃ ls : List (Ref.Four 64), ls.length = N ∧ S = quad64 ls := by
  constructor
  · rintro ⟨hl, hs⟩
    obtain ⟨vs, rfl, hv⟩ := shaped64 hs
    match vs, hl with
    | [x, y, z, w], _ =>
      obtain ⟨ls, h, rfl, rfl, rfl, rfl⟩ := four_columns x y z w (by rw [hv x (by simp), hv y (by simp)])
        (by rw [hv x (by simp), hv z (by simp)]) (by rw [hv x (by simp), hv w (by simp)])
      exact ⟨ls, by rw [h, hv _ (List.mem_cons_self ..)], rfl⟩
  · rintro ⟨ls, rfl, rfl⟩; simp [quad64, LaneVec.Shaped]

/-! ## The fixups, lane by lane (45_seeding.md R317, R322) -/

theorem oddInc_pair64 (ls : List (Ref.Two 64)) : oddInc (pair64 ls) = pair64 (ls.map fun l => ⟨l.a, l.b ||| 1⟩) := by
  simp [oddInc, pair64, Function.comp_def]

theorem oddInc_pair32 (ls : List (Ref.Two 32)) : oddInc (pair32 ls) = pair32 (ls.map fun l => ⟨l.a, l.b ||| 1⟩) := by
  simp [oddInc, pair32, Function.comp_def]

/-- The lanes whose words are in the list (45_seeding.md R322). -/
theorem jsfBadMask_map {W : Nat} (bad : List (JsfTuple W)) (ls : List (Ref.Four W)) :
    jsfBadMask bad (ls.map (·.a)) (ls.map (·.b)) (ls.map (·.c)) (ls.map (·.d)) =
      ls.map fun l => decide ((⟨l.a, l.b, l.c, l.d⟩ : JsfTuple W) ∈ bad) := by
  have key : ∀ (g : Ref.Four W → Bool),
      bad.foldl (fun m t =>
        maskOr m (maskAnd (maskAnd (maskAnd (veq (ls.map (·.a)) (vsplat t.a (ls.map (·.a))))
          (veq (ls.map (·.b)) (vsplat t.b (ls.map (·.b))))) (veq (ls.map (·.c)) (vsplat t.c (ls.map (·.c)))))
          (veq (ls.map (·.d)) (vsplat t.d (ls.map (·.d)))))) (ls.map g) =
        ls.map fun l => g l || decide ((⟨l.a, l.b, l.c, l.d⟩ : JsfTuple W) ∈ bad) := by
    induction bad with
    | nil => simp
    | cons t bad ih =>
      intro g
      rw [List.foldl_cons]
      simp only [vsplat_map, veq, maskAnd, maskOr, zipWith_map_map]
      have := ih fun l => g l || (((decide (l.a = t.a) && decide (l.b = t.b)) && decide (l.c = t.c)) && decide (l.d = t.d))
      simp only [vsplat_map, veq, maskAnd, maskOr, zipWith_map_map] at this
      rw [this]
      apply List.map_congr_left
      intro l _
      have e : ((⟨l.a, l.b, l.c, l.d⟩ : JsfTuple W) = t) ↔ l.a = t.a ∧ l.b = t.b ∧ l.c = t.c ∧ l.d = t.d := by
        cases t; simp
      simp only [List.mem_cons, e, Bool.decide_or, Bool.decide_and, Bool.or_assoc, Bool.and_assoc]
  have := key fun _ => false
  simpa [jsfBadMask, Function.comp_def] using this

theorem jsfFixup_map {W : Nat} (bad : List (JsfTuple W)) (ls : List (Ref.Four W)) :
    jsfFixup bad (ls.map (·.a)) (ls.map (·.b)) (ls.map (·.c)) (ls.map (·.d)) =
      ls.map fun l => (Ref.jsfFix bad l).d := by
  rw [jsfFixup, jsfBadMask_map, vselect, vaddc_map]
  induction ls with
  | nil => rfl
  | cons l ls ih =>
    simp only [List.map_cons, List.zip_cons_cons, List.zipWith_cons_cons, ih]
    congr 1
    by_cases h : (⟨l.a, l.b, l.c, l.d⟩ : JsfTuple W) ∈ bad <;> simp [Ref.jsfFix, h]

theorem jsfFix_abc {W : Nat} (bad : List (JsfTuple W)) (l : Ref.Four W) :
    (Ref.jsfFix bad l).a = l.a ∧ (Ref.jsfFix bad l).b = l.b ∧ (Ref.jsfFix bad l).c = l.c := by
  unfold Ref.jsfFix; split <;> simp

/-! ## The seeding procedure of a family against `SeedLoads` and `Accepted` -/

theorem seedProcOf_sb (p : Params) (f : Fam) (n : Lanes) : (seedProcOf p f n).sb = seedLength p f n := by
  cases f <;> simp [seedProcOf, seedLength, famWords, famWidth, shapeLanes, procZero32, procZero64, procInc64, procInc32,
    procJsf32, procJsf64, procLfsr113, procLfsr258, procMwc, procSfc64, procSfc32, procSfc16, procXsm32, procXsm64,
    procChacha, procArs, procAesrand, procSselcg] <;> ring

/-- The words of a seed with odd increments (45_seeding.md R317). -/
theorem loadInc64_iff (N : Nat) (b : List Byte) (S : List LaneVec) :
    (b.length = 16 * N ∧ oddInc (load64 2 N b) = S) ↔
      ∃ ls : List (Ref.Two 64), ls.length = N ∧ b = stateBytes (pair64 ls) ∧
        S = pair64 (ls.map fun l => ⟨l.a, l.b ||| 1⟩) := by
  constructor
  · rintro ⟨h, rfl⟩
    obtain ⟨h1, h2⟩ := (load64_iff 2 N b _).1 ⟨by omega, rfl⟩
    obtain ⟨ls, h3, h4⟩ := shaped_pair64.1 h1
    exact ⟨ls, h3, by rw [h2, h4], by rw [h4, oddInc_pair64]⟩
  · rintro ⟨ls, h, rfl, rfl⟩
    obtain ⟨h1, h2⟩ := (load64_iff 2 N _ _).2 ⟨shaped_pair64.2 ⟨ls, h, rfl⟩, rfl⟩
    exact ⟨by omega, by rw [h2, oddInc_pair64]⟩

@[inherit_doc loadInc64_iff]
theorem loadInc32_iff (N : Nat) (b : List Byte) (S : List LaneVec) :
    (b.length = 8 * N ∧ oddInc (load32 2 N b) = S) ↔
      ∃ ls : List (Ref.Two 32), ls.length = N ∧ b = stateBytes (pair32 ls) ∧
        S = pair32 (ls.map fun l => ⟨l.a, l.b ||| 1⟩) := by
  constructor
  · rintro ⟨h, rfl⟩
    obtain ⟨h1, h2⟩ := (load32_iff 2 N b _).1 ⟨by omega, rfl⟩
    obtain ⟨ls, h3, h4⟩ := shaped_pair32.1 h1
    exact ⟨ls, h3, by rw [h2, h4], by rw [h4, oddInc_pair32]⟩
  · rintro ⟨ls, h, rfl, rfl⟩
    obtain ⟨h1, h2⟩ := (load32_iff 2 N _ _).2 ⟨shaped_pair32.2 ⟨ls, h, rfl⟩, rfl⟩
    exact ⟨by omega, by rw [h2, oddInc_pair32]⟩

/-- The words of a JSF32 seed with the fixup applied (45_seeding.md R322). -/
theorem loadJsf32_iff (bad : List (JsfTuple 32)) (N : Nat) (b : List Byte) (S : List LaneVec) :
    (b.length = 16 * N ∧ loadJsf32 bad N b = S) ↔
      ∃ ls : List (Ref.Four 32), ls.length = N ∧ b = stateBytes (quad32 ls) ∧
        S = quad32 (ls.map (Ref.jsfFix bad)) := by
  have key : ∀ ls : List (Ref.Four 32), seedWords 32 N 4 b = [ls.map (·.a), ls.map (·.b), ls.map (·.c), ls.map (·.d)] →
      loadJsf32 bad N b = quad32 (ls.map (Ref.jsfFix bad)) := by
    intro ls h
    simp [loadJsf32, h, jsfFixup_map, quad32, Function.comp_def, jsfFix_abc]
  constructor
  · rintro ⟨h, rfl⟩
    obtain ⟨h1, h2⟩ := (load32_iff 4 N b _).1 ⟨by omega, rfl⟩
    obtain ⟨ls, h3, h4⟩ := shaped_quad32.1 h1
    refine ⟨ls, h3, by rw [h2, h4], key ls ?_⟩
    have h5 : (seedWords 32 N 4 b).map LaneVec.u32
        = [ls.map (·.a), ls.map (·.b), ls.map (·.c), ls.map (·.d)].map LaneVec.u32 := h4
    exact (List.map_injective_iff.2 fun _ _ => LaneVec.u32.inj) h5
  · rintro ⟨ls, h, rfl, rfl⟩
    obtain ⟨h1, h2⟩ := (load32_iff 4 N _ _).2 ⟨shaped_quad32.2 ⟨ls, h, rfl⟩, rfl⟩
    refine ⟨by omega, key ls ?_⟩
    have h5 : (seedWords 32 N 4 (stateBytes (quad32 ls))).map LaneVec.u32
        = [ls.map (·.a), ls.map (·.b), ls.map (·.c), ls.map (·.d)].map LaneVec.u32 := h2
    exact (List.map_injective_iff.2 fun _ _ => LaneVec.u32.inj) h5

@[inherit_doc loadJsf32_iff]
theorem loadJsf64_iff (bad : List (JsfTuple 64)) (N : Nat) (b : List Byte) (S : List LaneVec) :
    (b.length = 32 * N ∧ loadJsf64 bad N b = S) ↔
      ∃ ls : List (Ref.Four 64), ls.length = N ∧ b = stateBytes (quad64 ls) ∧
        S = quad64 (ls.map (Ref.jsfFix bad)) := by
  have key : ∀ ls : List (Ref.Four 64), seedWords 64 N 4 b = [ls.map (·.a), ls.map (·.b), ls.map (·.c), ls.map (·.d)] →
      loadJsf64 bad N b = quad64 (ls.map (Ref.jsfFix bad)) := by
    intro ls h
    simp [loadJsf64, h, jsfFixup_map, quad64, Function.comp_def, jsfFix_abc]
  constructor
  · rintro ⟨h, rfl⟩
    obtain ⟨h1, h2⟩ := (load64_iff 4 N b _).1 ⟨by omega, rfl⟩
    obtain ⟨ls, h3, h4⟩ := shaped_quad64.1 h1
    refine ⟨ls, h3, by rw [h2, h4], key ls ?_⟩
    have h5 : (seedWords 64 N 4 b).map LaneVec.u64
        = [ls.map (·.a), ls.map (·.b), ls.map (·.c), ls.map (·.d)].map LaneVec.u64 := h4
    exact (List.map_injective_iff.2 fun _ _ => LaneVec.u64.inj) h5
  · rintro ⟨ls, h, rfl, rfl⟩
    obtain ⟨h1, h2⟩ := (load64_iff 4 N _ _).2 ⟨shaped_quad64.2 ⟨ls, h, rfl⟩, rfl⟩
    refine ⟨by omega, key ls ?_⟩
    have h5 : (seedWords 64 N 4 (stateBytes (quad64 ls))).map LaneVec.u64
        = [ls.map (·.a), ls.map (·.b), ls.map (·.c), ls.map (·.d)].map LaneVec.u64 := h2
    exact (List.map_injective_iff.2 fun _ _ => LaneVec.u64.inj) h5

/-- The words of a ChaCha seed (45_seeding.md R332). -/
theorem loadChacha_iff (b : List Byte) (S : List LaneVec) :
    (b.length = 32 ∧ loadChacha b = S) ↔
      ∃ key : List (BitVec 32), key.length = 8 ∧ b = image key ∧ S = oneLane32 (ChachaFresh key) := by
  have e : ∀ b, loadChacha b = oneLane32 (ChachaFresh (le 32 8 b)) := fun _ => rfl
  constructor
  · rintro ⟨h, rfl⟩
    exact ⟨le 32 8 b, by simp, (image_le 8 b (by omega)).symm, e b⟩
  · rintro ⟨key, h, rfl, rfl⟩
    refine ⟨by simp [h], ?_⟩
    rw [e]
    have := le_image_append (W := 32) (by decide) key []
    rw [h, List.append_nil] at this
    rw [this]

/-- What the machine loads from a seed image of the right length is what the rules say it makes (20_memory.md R64;
45_seeding.md R317 to R323, R332, R343). -/
theorem seedLoads_iff (p : Params) (f : Fam) (n : Lanes) (b : List Byte) (S : List LaneVec) :
    SeedLoads p f n b S ↔ b.length = seedLength p f n ∧ (seedProcOf p f n).load b = S := by
  have e16 := fun K N => load16_iff K N b S
  have e32 := fun K N => load32_iff K N b S
  have e64 := fun K N => load64_iff K N b S
  have e128 := fun K => load128_iff K b S
  cases f
  case pcg32 | pcg32Xsh | pcg32Xsl | lcg32 =>
    rw [← seedProcOf_sb]
    exact (loadInc64_iff n.count b S).symm
  case lcg16 =>
    rw [← seedProcOf_sb]
    exact (loadInc32_iff n.count b S).symm
  case jsf32 =>
    rw [← seedProcOf_sb]
    exact (loadJsf32_iff _ n.count b S).symm
  case jsf64 =>
    rw [← seedProcOf_sb]
    exact (loadJsf64_iff _ n.count b S).symm
  case chacha4 | chacha4f => exact (loadChacha_iff b S).symm
  case xorshift32 | xorshift128 | xoshiro128ss | lfsr113 | sfc32 | xsm32 => exact (e32 _ _).symm
  case xorshift128plus | xoroshiro128ss | xoshiro256ss | xoshiro512ss | lfsr258 | mwc | sfc64 | xsm64 =>
    exact (e64 _ _).symm
  case sfc16 => exact (e16 _ _).symm
  case ars5 | ars7 => exact (e128 2).symm
  case aesrand => exact (e128 1).symm
  case sselcg => exact (e32 1 4).symm

/-- Every word of a family's seed has the family's shape (10_state.md R22). -/
theorem SeedLoads.shaped {p : Params} {f : Fam} {n : Lanes} {b : List Byte} {S : List LaneVec}
    (h : SeedLoads p f n b S) : Shaped p f n S := by
  cases f
  case pcg32 | pcg32Xsh | pcg32Xsl | lcg32 =>
    obtain ⟨ls, h1, -, rfl⟩ := h
    exact shaped_pair64.2 ⟨_, by simp [h1, shapeLanes], rfl⟩
  case lcg16 =>
    obtain ⟨ls, h1, -, rfl⟩ := h
    exact shaped_pair32.2 ⟨_, by simp [h1, shapeLanes], rfl⟩
  case jsf32 =>
    obtain ⟨ls, h1, -, rfl⟩ := h
    exact shaped_quad32.2 ⟨_, by simp [h1, shapeLanes], rfl⟩
  case jsf64 =>
    obtain ⟨ls, h1, -, rfl⟩ := h
    exact shaped_quad64.2 ⟨_, by simp [h1, shapeLanes], rfl⟩
  case chacha4 | chacha4f =>
    obtain ⟨key, h1, -, rfl⟩ := h
    refine ⟨by simp [oneLane32, ChachaFresh, famWords, h1], ?_⟩
    intro w hw
    obtain ⟨v, -, rfl⟩ := List.mem_map.1 hw
    exact ⟨rfl, rfl⟩
  all_goals exact h.1

/-! ## The validator's test (45_seeding.md R302, R304, R324) -/

/-- The mask of a register's zero lanes, lane by lane. -/
theorem zeroMask_getElem? (w : LaneVec) (j : Nat) : w.zeroMask[j]? = some true ↔ w.ZeroAt j := by
  cases w <;> simp only [LaneVec.zeroMask, LaneVec.ZeroAt, veq, vsplat, List.getElem?_zipWith, List.getElem?_map] <;>
    rename_i v <;> cases v[j]? <;> simp

theorem zeroMask_length (w : LaneVec) : w.zeroMask.length = w.lanes := by
  cases w <;> simp [LaneVec.zeroMask, LaneVec.lanes, veq, vsplat]

/-- The mask of the degenerate lanes, lane by lane (45_seeding.md R302). -/
theorem degenMask_getElem? (S : List LaneVec) (hS : S ≠ []) (j : Nat) :
    (degenMask S)[j]? = some true ↔ Degenerate S j := by
  match S, hS with
  | v :: vs, _ =>
    rw [degenMask]
    have key : ∀ m : Mask, (vs.foldl (fun m w => maskAnd m w.zeroMask) m)[j]? = some true ↔
        m[j]? = some true ∧ ∀ w ∈ vs, w.ZeroAt j := by
      induction vs with
      | nil => simp
      | cons w vs ih =>
        intro m
        rw [List.foldl_cons, ih (by simp)]
        have : (maskAnd m w.zeroMask)[j]? = some true ↔ m[j]? = some true ∧ w.ZeroAt j := by
          rw [← zeroMask_getElem?, maskAnd, List.getElem?_zipWith]
          cases m[j]? <;> cases w.zeroMask[j]? <;> simp
        rw [this]; simp [and_assoc]
    rw [key, zeroMask_getElem?]; simp [Degenerate]

/-- The zero-lane test passes exactly where no lane is degenerate (45_seeding.md R303). -/
theorem noLaneDegenerate_iff (S : List LaneVec) (hS : S ≠ []) :
    noLaneDegenerate S = true ↔ ∀ j, ¬ Degenerate S j := by
  simp only [noLaneDegenerate, maskAny, Bool.not_eq_true', List.any_eq_false, id_eq, Bool.not_eq_true]
  constructor
  · intro h j hj
    have := List.mem_of_getElem? ((degenMask_getElem? S hS j).2 hj)
    exact absurd (h _ this) (by simp)
  · intro h x hx
    obtain ⟨j, hj⟩ := List.getElem?_of_mem hx
    cases x with
    | false => rfl
    | true => exact absurd ((degenMask_getElem? S hS j).1 hj) (h j)

/-- Past the lanes there is no degenerate lane. -/
theorem not_degenerate_of_ge {W N : Nat} {S : List LaneVec} (hS : S ≠ []) (hs : ∀ w ∈ S, w.Shaped W N) {j : Nat}
    (hj : N ≤ j) : ¬ Degenerate S j := by
  intro h
  obtain ⟨w, hw⟩ := List.exists_mem_of_ne_nil S hS
  have h1 := h w hw
  have h2 := hs w hw
  cases w <;> obtain ⟨-, h2⟩ := h2 <;> simp only [LaneVec.ZeroAt] at h1 <;>
    rw [List.getElem?_eq_none (by omega)] at h1 <;> simp at h1

/-- The threshold as an integer (45_seeding.md R324). -/
theorem lfsrThreshold_toNat {W : Nat} (r : LfsrRow W) : (lfsrThreshold r).toNat = 2 ^ r.k.val - 1 := by
  have h1 : 2 ^ r.k.val ≤ 2 ^ W := Nat.pow_le_pow_right (by decide) (by omega)
  have h2 : 0 < 2 ^ r.k.val := by positivity
  rw [lfsrThreshold, BitVec.toNat_ofNat, Nat.mod_eq_of_lt (by omega)]

/-- A word is drawn again exactly where a lane of it is at or below the threshold (45_seeding.md R324). -/
theorem atOrBelow_iff {W : Nat} (T : BitVec W) (v : Vec W) :
    atOrBelow T v = true ↔ ∃ x ∈ v, x.toNat ≤ T.toNat := by
  have : vle v (vsplat T v) = v.map fun x => decide (x.toNat ≤ T.toNat) := by
    rw [vle, vsplat]
    have := zipWith_map_map (fun x y : BitVec W => decide (x.toNat ≤ y.toNat)) id (fun _ => T) v
    simpa using this
  rw [atOrBelow, maskAny, this]
  simp

theorem aboveThresholds_iff {W : Nat} (tab : List (LfsrRow W)) (ws : List (Vec W)) (h : ws.length = tab.length) :
    aboveThresholds tab ws = true ↔ AboveThresholds tab ws := by
  unfold aboveThresholds AboveThresholds
  induction tab generalizing ws with
  | nil => cases ws <;> simp_all
  | cons r tab ih =>
    match ws, h with
    | w :: ws, h =>
      rw [List.zipWith_cons_cons, List.all_cons, Bool.and_eq_true, ih ws (by simpa using h), List.forall₂_cons]
      refine and_congr ?_ Iff.rfl
      rw [id_eq, Bool.not_eq_true', ← Bool.not_eq_true, atOrBelow_iff, lfsrThreshold_toNat]
      simp

/-- The machine's test of a seed is the test the rules give (45_seeding.md R303, R304, R324, R326, R343). -/
theorem accept_iff {p : Params} {f : Fam} {n : Lanes} {S : List LaneVec} (h : Shaped p f n S) :
    (seedProcOf p f n).accept S = true ↔ Accepted p f n S := by
  obtain ⟨hl, hs⟩ := h
  have key : ∀ W, (∀ w ∈ S, w.Shaped W n.count) → S ≠ [] →
      (noLaneDegenerate S = true ↔ ∀ j < n.count, ¬ Degenerate S j) := by
    intro W hs hne
    rw [noLaneDegenerate_iff S hne]
    refine ⟨fun h j _ => h j, fun h j => ?_⟩
    by_cases hj : j < n.count
    · exact h j hj
    · exact not_degenerate_of_ge hne hs (by omega)
  cases f
  case lfsr113 =>
    exact aboveThresholds_iff _ _ (by simpa [famWords] using hl)
  case lfsr258 =>
    exact aboveThresholds_iff _ _ (by simpa [famWords] using hl)
  case mwc =>
    have hne : S ≠ [] := by rintro rfl; simp [famWords] at hl
    have := key _ hs hne
    simp only [seedProcOf, procMwc, Accepted]
    cases p.mwcZeroAvoid <;> simp [this]
  case xorshift32 | xorshift128 | xorshift128plus | xoroshiro128ss | xoshiro128ss | xoshiro256ss | xoshiro512ss =>
    have hne : S ≠ [] := by rintro rfl; simp [famWords] at hl
    exact key _ hs hne
  all_goals exact ⟨fun _ => trivial, fun _ => rfl⟩

/-! ## The re-sampling of the LFSR families (45_seeding.md R324) -/

/-- What the loop of a word, entered with `fuel` requests still answered, can end in (45_seeding.md R324). -/
def WordOutcome {W : Nat} (N : Nat) (T : BitVec W) (fuel : Nat) (s : State) (e : WordEnd (Vec W)) : Prop :=
  (∃ w left t, e = .kept w left t ∧ w.length = N ∧ DrawnFrom s t ∧ (s.ent.length ≤ fuel → t.ent.length ≤ left) ∧
    ∀ x ∈ w, T.toNat < x.toNat) ∨
  (∃ t, e = .never t ∧ DrawnFrom s t ∧ (s.ent.length ≤ fuel → t.ent = [])) ∨
  (∃ c t, e = .failed c t ∧ DrawnFrom s t)

/-- Everything the loop of a word can do once it draws. -/
theorem redrawWord_spec {W : Nat} (N : Nat) (T : BitVec W) (fuel : Nat) (s : State) :
    WordOutcome N T fuel s (redrawWord N T fuel s) := by
  induction fuel generalizing s with
  | zero => exact .inr (.inl ⟨s, rfl, DrawnFrom.refl s, by simp⟩)
  | succ fuel ih =>
    have hd := DrawnFrom.entDraw s (N * (W / 8))
    have hleft := fun h => State.entDraw_left (s := s) (fuel := fuel) (N * (W / 8)) h
    rw [redrawWord]
    rcases hr : s.entDraw (N * (W / 8)) with ⟨r, s'⟩
    rw [hr] at hd hleft
    cases r with
    | fail c => exact .inr (.inr ⟨c, s', rfl, hd⟩)
    | ok b =>
      by_cases h : atOrBelow T (le W N b) = true
      · simp only [h, if_true]
        rcases ih s' with ⟨w, left, t, h1, h2, h3, h4, h5⟩ | ⟨t, h1, h2, h3⟩ | ⟨c, t, h1, h2⟩
        · exact .inl ⟨w, left, t, h1, h2, hd.trans h3, fun h => h4 (hleft h), h5⟩
        · exact .inr (.inl ⟨t, h1, hd.trans h2, fun h => h3 (hleft h)⟩)
        · exact .inr (.inr ⟨c, t, h1, hd.trans h2⟩)
      · simp only [h]
        rw [atOrBelow_iff] at h; push Not at h
        exact .inl ⟨_, fuel, s', rfl, by simp, hd, hleft, h⟩

/-- Everything the re-sampling of a word can do (45_seeding.md R324). -/
theorem resampleWord_spec {W : Nat} (N : Nat) (T : BitVec W) (fuel : Nat) (v : Vec W) (s : State) (hv : v.length = N) :
    WordOutcome N T fuel s (resampleWord N T fuel v s) := by
  unfold resampleWord
  split
  · exact redrawWord_spec N T fuel s
  · rename_i h
    rw [atOrBelow_iff] at h; push Not at h
    exact .inl ⟨v, fuel, s, rfl, hv, DrawnFrom.refl s, id, h⟩

/-- Everything the loop over the words can do (45_seeding.md R324). -/
theorem resampleWords_spec {W : Nat} (N fuel : Nat) (l : List (BitVec W × Vec W)) (s : State)
    (hv : ∀ p ∈ l, p.2.length = N) :
    (∃ ws left t, resampleWords N fuel l s = .kept ws left t ∧ (∀ w ∈ ws, w.length = N) ∧ ws.length = l.length ∧
      DrawnFrom s t ∧ (s.ent.length ≤ fuel → t.ent.length ≤ left) ∧
      List.Forall₂ (fun p w => ∀ x ∈ w, p.1.toNat < x.toNat) l ws) ∨
    (∃ t, resampleWords N fuel l s = .never t ∧ DrawnFrom s t ∧ (s.ent.length ≤ fuel → t.ent = [])) ∨
    (∃ c t, resampleWords N fuel l s = .failed c t ∧ DrawnFrom s t) := by
  induction l generalizing fuel s with
  | nil => exact .inl ⟨[], fuel, s, rfl, by simp, rfl, DrawnFrom.refl s, id, .nil⟩
  | cons p l ih =>
    obtain ⟨T, v⟩ := p
    rw [resampleWords]
    rcases resampleWord_spec N T fuel v s (hv (T, v) (by simp)) with
      ⟨w, left, t, h1, h2, h3, hl, h4⟩ | ⟨t, h1, h2, h3⟩ | ⟨c, t, h1, h2⟩
    · rw [h1]; simp only
      rcases ih left t (fun p hp => hv p (by simp [hp])) with
        ⟨ws, left', t', g1, g2, g3, g4, gl, g5⟩ | ⟨t', g1, g2, g3⟩ | ⟨c, t', g1, g2⟩
      · rw [g1]
        exact .inl ⟨w :: ws, left', t', rfl, by simp [h2]; exact g2, by simp [g3], h3.trans g4, fun h => gl (hl h),
          .cons h4 g5⟩
      · rw [g1]; exact .inr (.inl ⟨t', rfl, h3.trans g2, fun h => g3 (hl h)⟩)
      · rw [g1]; exact .inr (.inr ⟨c, t', rfl, h3.trans g2⟩)
    · rw [h1]; exact .inr (.inl ⟨t, rfl, h2, h3⟩)
    · rw [h1]; exact .inr (.inr ⟨c, t, rfl, h2⟩)

/-- One draw of a word with the next answer listed (45_seeding.md R324). -/
theorem redrawWord_ok {W : Nat} (hW : W % 8 = 0) {N : Nat} (T : BitVec W) (fuel : Nat) {s : State}
    {v : Vec W} {rest : List EntAnswer} (hv : v.length = N) (he : s.ent = .ok (image v) :: rest) :
    redrawWord N T (fuel + 1) s = resampleWord N T fuel v { s with ent := rest, draws := s.draws + 1 } := by
  have hl : (image v).length = N * (W / 8) := by rw [image_length, hv]
  have h2 : le W N (image v) = v := by have := le_image_append hW v []; simpa [hv] using this
  rw [redrawWord, State.entDraw_ok he hl]; simp only [h2]; rfl

/-- A word with listed answers: some that the validator rejects, then one that it accepts (45_seeding.md R324). -/
theorem resampleWord_kept {W : Nat} (hW : W % 8 = 0) (N : Nat) (T : BitVec W) (more : List (Vec W)) (first last : Vec W)
    (fuel : Nat) (s : State) (rest : List EntAnswer) (h : WordHistory N T.toNat first more last)
    (he : s.ent = more.map (fun v => .ok (image v)) ++ rest) (hf : more.length ≤ fuel) :
    resampleWord N T fuel first s =
      .kept last (fuel - more.length) { s with ent := rest, draws := s.draws + more.length } := by
  induction more generalizing first fuel s with
  | nil =>
    obtain ⟨h1, rfl, h3⟩ := h
    have : ¬ atOrBelow T last = true := by rw [atOrBelow_iff]; push Not; exact h3
    simp at he
    simp [resampleWord, this, ← he]
  | cons v more ih =>
    obtain ⟨h1, h2, h3⟩ := h
    obtain ⟨fuel, rfl⟩ : ∃ k, fuel = k + 1 := ⟨fuel - 1, by simp at hf; omega⟩
    have hv : v.length = N := by cases more <;> exact h3.1
    rw [resampleWord, if_pos ((atOrBelow_iff T first).2 h2), redrawWord_ok hW T fuel hv (by simpa using he),
      ih _ fuel _ h3 rfl (by simpa using hf)]
    simp; omega

/-- A word with listed answers: some that the validator rejects, then a failure (45_seeding.md R324, R345). -/
theorem resampleWord_failed {W : Nat} (hW : W % 8 = 0) (N : Nat) (T : BitVec W) (more : List (Vec W)) (first : Vec W)
    (fuel : Nat) (s : State) (c : BitVec 32) (rest : List EntAnswer) (h : WordRejected N T.toNat first more)
    (he : s.ent = more.map (fun v => .ok (image v)) ++ .fail c :: rest) (hf : more.length < fuel) :
    resampleWord N T fuel first s = .failed c { s with ent := rest, draws := s.draws + more.length + 1 } := by
  induction more generalizing first fuel s with
  | nil =>
    obtain ⟨fuel, rfl⟩ : ∃ k, fuel = k + 1 := ⟨fuel - 1, by simp at hf; omega⟩
    rw [resampleWord, if_pos ((atOrBelow_iff T first).2 (h first (by simp)).2), redrawWord,
      State.entDraw_fail (s := s) (by simpa using he)]
    rfl
  | cons v more ih =>
    obtain ⟨fuel, rfl⟩ : ∃ k, fuel = k + 1 := ⟨fuel - 1, by simp at hf; omega⟩
    rw [resampleWord, if_pos ((atOrBelow_iff T first).2 (h first (by simp)).2),
      redrawWord_ok hW T fuel (h v (by simp)).1 (by simpa using he),
      ih _ fuel _ (fun u hu => h u (by simp at hu ⊢; tauto)) rfl (by simpa using hf)]
    simp; omega

/-- Everything the seeding of an LFSR family can do: it ends in words of N lanes above their thresholds, or with a failure, or
never, with no listed answer left; and it changes nothing but the answers left and the counter (45_seeding.md R324). -/
theorem lfsrSeed_spec {W : Nat} (mk : Vec W → LaneVec) (tab : List (LfsrRow W)) (N fuel : Nat) (s : State) :
    DrawnFrom s (lfsrSeed mk tab N fuel s).state ∧
    (∀ S t, lfsrSeed mk tab N fuel s = .done S t →
      ∃ ws : List (Vec W), S = ws.map mk ∧ ws.length = tab.length ∧ (∀ w ∈ ws, w.length = N) ∧ AboveThresholds tab ws) ∧
    (∀ t, lfsrSeed mk tab N fuel s = .never t → s.ent.length ≤ fuel → t.ent = []) := by
  cases fuel with
  | zero => exact ⟨DrawnFrom.refl s, by simp [lfsrSeed], by simp [lfsrSeed]⟩
  | succ fuel =>
    have hd := DrawnFrom.entDraw s (tab.length * (N * (W / 8)))
    have hleft := fun h => State.entDraw_left (s := s) (fuel := fuel) (tab.length * (N * (W / 8))) h
    unfold lfsrSeed
    rcases hr : s.entDraw (tab.length * (N * (W / 8))) with ⟨r, s'⟩
    rw [hr] at hd hleft
    cases r with
    | fail c => simp [SeedEnd.state]; exact hd
    | ok b =>
      simp only
      rcases resampleWords_spec N fuel ((tab.map lfsrThreshold).zip (seedWords W N tab.length b)) s'
          (fun p hp => seedWords_lanes W N _ b _ (List.of_mem_zip hp).2) with
        ⟨ws, left, t, e, a1, a2, a3, a4, a5⟩ | ⟨t, e, a1, a2⟩ | ⟨c, t, e, a1⟩
      · rw [e]
        refine ⟨hd.trans a3, ?_, by simp [WordEnd.toSeed]⟩
        intro S t' he
        simp [WordEnd.toSeed] at he
        have hl : ws.length = tab.length := by simpa using a2
        refine ⟨ws, he.1.symm, hl, a1, ?_⟩
        unfold AboveThresholds
        rw [List.forall₂_iff_get] at a5 ⊢
        refine ⟨hl.symm, ?_⟩
        intro i h1 h2 x hx
        have := a5.2 i (by simpa using h1) h2 x hx
        simpa [lfsrThreshold_toNat] using this
      · rw [e]
        refine ⟨hd.trans a1, by simp [WordEnd.toSeed], ?_⟩
        intro t' he hf
        simp [WordEnd.toSeed] at he
        subst he
        exact a2 (hleft hf)
      · rw [e]
        exact ⟨hd.trans a1, by simp [WordEnd.toSeed], by simp [WordEnd.toSeed]⟩

end Sys2Proof.Machine
end

