-- ==== Sys2Proof/Tests/Slice0.lean ====
section
/-! SUPPORT. The model's own tests: the smoke test of WellFormed, the decoding of every constructor, and vectors of
95_test_vectors.md, one step each. -/

namespace Sys2Proof.Tests

open Sys2Proof.Machine

/-! ## WellFormed: the ill-formed terms, one per operation that names a family (30_encoding.md R95 (d)) -/

theorem test_wf_mwc_x8 : (Instr.genMwc .x8).wf = true := by decide
theorem test_wf_refuses_gen_mwc_x16 : (Instr.genMwc .x16).wf = false := by decide
theorem test_wf_refuses_fill_mwc_x16 : (Instr.fillMwc .x16).wf = false := by decide
theorem test_wf_refuses_seed_rng_mwc_x16 : (Instr.seedRngMwc .x16).wf = false := by decide
theorem test_wf_refuses_seed_blocks_mwc_x16 : (Instr.seedBlocksMwc .x16).wf = false := by decide
theorem test_wf_refuses_seed_fixed_mwc_x16 : (Instr.seedFixedMwc .x16).wf = false := by decide

/-! ## Decoding: every constructor, by its word of 30_encoding.md R102 -/

/-- Every pair's word decodes to its command. -/
def allDecode (l : List (Word × Instr)) : Bool := l.all fun p => decode p.1 == .ok p.2

theorem test_decode_control :
    allDecode [(0x00000000, .nop), (0x60000000, .clrerr), (0x70000000, .reset)] = true := by decide +kernel

theorem test_decode_seed_rng :
    allDecode [
      (0x10140000, .seedRngXorshift32 .x4), (0x10260000, .seedRngXorshift128 .x8), (0x10380000, .seedRngXorshift128plus .x16),
      (0x10420000, .seedRngXoroshiro128ss .x2), (0x10540000, .seedRngXoshiro128ss .x4), (0x10660000, .seedRngXoshiro256ss .x8),
      (0x10780000, .seedRngXoshiro512ss .x16), (0x10820000, .seedRngPcg32 .x2), (0x10940000, .seedRngPcg32Xsh .x4),
      (0x10A60000, .seedRngPcg32Xsl .x8), (0x10B80000, .seedRngLcg32 .x16), (0x10C20000, .seedRngLcg16 .x2),
      (0x10D40000, .seedRngJsf32 .x4), (0x10E60000, .seedRngJsf64 .x8), (0x10F80000, .seedRngLfsr113 .x16),
      (0x11020000, .seedRngLfsr258 .x2), (0x11160000, .seedRngMwc .x8), (0x11260000, .seedRngSfc64 .x8),
      (0x11380000, .seedRngSfc32 .x16), (0x11420000, .seedRngSfc16 .x2), (0x11540000, .seedRngXsm32 .x4),
      (0x11660000, .seedRngXsm64 .x8), (0x11700000, .seedRngChacha4), (0x11800000, .seedRngChacha4f),
      (0x11900000, .seedRngArs5), (0x11A00000, .seedRngArs7), (0x11B00000, .seedRngAesrand),
      (0x11C00000, .seedRngSselcg)] = true := by decide +kernel

theorem test_decode_seed_blocks :
    allDecode [
      (0x20160000, .seedBlocksXorshift32 .x8), (0x20280000, .seedBlocksXorshift128 .x16), (0x20320000, .seedBlocksXorshift128plus .x2),
      (0x20440000, .seedBlocksXoroshiro128ss .x4), (0x20560000, .seedBlocksXoshiro128ss .x8), (0x20680000, .seedBlocksXoshiro256ss .x16),
      (0x20720000, .seedBlocksXoshiro512ss .x2), (0x20840000, .seedBlocksPcg32 .x4), (0x20960000, .seedBlocksPcg32Xsh .x8),
      (0x20A80000, .seedBlocksPcg32Xsl .x16), (0x20B20000, .seedBlocksLcg32 .x2), (0x20C40000, .seedBlocksLcg16 .x4),
      (0x20D60000, .seedBlocksJsf32 .x8), (0x20E80000, .seedBlocksJsf64 .x16), (0x20F20000, .seedBlocksLfsr113 .x2),
      (0x21040000, .seedBlocksLfsr258 .x4), (0x21120000, .seedBlocksMwc .x2), (0x21280000, .seedBlocksSfc64 .x16),
      (0x21320000, .seedBlocksSfc32 .x2), (0x21440000, .seedBlocksSfc16 .x4), (0x21560000, .seedBlocksXsm32 .x8),
      (0x21680000, .seedBlocksXsm64 .x16), (0x21700000, .seedBlocksChacha4), (0x21800000, .seedBlocksChacha4f),
      (0x21900000, .seedBlocksArs5), (0x21A00000, .seedBlocksArs7), (0x21B00000, .seedBlocksAesrand),
      (0x21C00000, .seedBlocksSselcg)] = true := by decide +kernel

theorem test_decode_seed_fixed :
    allDecode [
      (0x30180000, .seedFixedXorshift32 .x16), (0x30220000, .seedFixedXorshift128 .x2), (0x30340000, .seedFixedXorshift128plus .x4),
      (0x30460000, .seedFixedXoroshiro128ss .x8), (0x30580000, .seedFixedXoshiro128ss .x16), (0x30620000, .seedFixedXoshiro256ss .x2),
      (0x30740000, .seedFixedXoshiro512ss .x4), (0x30860000, .seedFixedPcg32 .x8), (0x30980000, .seedFixedPcg32Xsh .x16),
      (0x30A20000, .seedFixedPcg32Xsl .x2), (0x30B40000, .seedFixedLcg32 .x4), (0x30C60000, .seedFixedLcg16 .x8),
      (0x30D80000, .seedFixedJsf32 .x16), (0x30E20000, .seedFixedJsf64 .x2), (0x30F40000, .seedFixedLfsr113 .x4),
      (0x31060000, .seedFixedLfsr258 .x8), (0x31140000, .seedFixedMwc .x4), (0x31220000, .seedFixedSfc64 .x2),
      (0x31340000, .seedFixedSfc32 .x4), (0x31460000, .seedFixedSfc16 .x8), (0x31580000, .seedFixedXsm32 .x16),
      (0x31620000, .seedFixedXsm64 .x2), (0x31700000, .seedFixedChacha4), (0x31800000, .seedFixedChacha4f),
      (0x31900000, .seedFixedArs5), (0x31A00000, .seedFixedArs7), (0x31B00000, .seedFixedAesrand),
      (0x31C00000, .seedFixedSselcg)] = true := by decide +kernel

theorem test_decode_gen :
    allDecode [
      (0x40120000, .genXorshift32 .x2), (0x40240000, .genXorshift128 .x4), (0x40360000, .genXorshift128plus .x8),
      (0x40480000, .genXoroshiro128ss .x16), (0x40520000, .genXoshiro128ss .x2), (0x40640000, .genXoshiro256ss .x4),
      (0x40760000, .genXoshiro512ss .x8), (0x40880000, .genPcg32 .x16), (0x40920000, .genPcg32Xsh .x2),
      (0x40A40000, .genPcg32Xsl .x4), (0x40B60000, .genLcg32 .x8), (0x40C80000, .genLcg16 .x16),
      (0x40D20000, .genJsf32 .x2), (0x40E40000, .genJsf64 .x4), (0x40F60000, .genLfsr113 .x8),
      (0x41080000, .genLfsr258 .x16), (0x41160000, .genMwc .x8), (0x41240000, .genSfc64 .x4),
      (0x41360000, .genSfc32 .x8), (0x41480000, .genSfc16 .x16), (0x41520000, .genXsm32 .x2),
      (0x41640000, .genXsm64 .x4), (0x41700000, .genChacha4), (0x41800000, .genChacha4f),
      (0x41900000, .genArs5), (0x41A00000, .genArs7), (0x41B00000, .genAesrand),
      (0x41C00000, .genSselcg)] = true := by decide +kernel

theorem test_decode_fill :
    allDecode [
      (0x50140000, .fillXorshift32 .x4), (0x50260000, .fillXorshift128 .x8), (0x50380000, .fillXorshift128plus .x16),
      (0x50420000, .fillXoroshiro128ss .x2), (0x50540000, .fillXoshiro128ss .x4), (0x50660000, .fillXoshiro256ss .x8),
      (0x50780000, .fillXoshiro512ss .x16), (0x50820000, .fillPcg32 .x2), (0x50940000, .fillPcg32Xsh .x4),
      (0x50A60000, .fillPcg32Xsl .x8), (0x50B80000, .fillLcg32 .x16), (0x50C20000, .fillLcg16 .x2),
      (0x50D40000, .fillJsf32 .x4), (0x50E60000, .fillJsf64 .x8), (0x50F80000, .fillLfsr113 .x16),
      (0x51020000, .fillLfsr258 .x2), (0x51120000, .fillMwc .x2), (0x51260000, .fillSfc64 .x8),
      (0x51380000, .fillSfc32 .x16), (0x51420000, .fillSfc16 .x2), (0x51540000, .fillXsm32 .x4),
      (0x51660000, .fillXsm64 .x8), (0x51700000, .fillChacha4), (0x51800000, .fillChacha4f),
      (0x51900000, .fillArs5), (0x51A00000, .fillArs7), (0x51B00000, .fillAesrand),
      (0x51C00000, .fillSselcg)] = true := by decide +kernel

/-- The worked examples of 30_encoding.md R102, each word's bits written out field by field: OP, FAM, LN, ZERO. -/
theorem test_decode_bit_by_bit :
    allDecode
      [(0b0100_00000001_010_00000000000000000, .genXorshift32 .x4),
       (0b0001_00001000_001_00000000000000000, .seedRngPcg32 .x2),
       (0b0010_00000110_011_00000000000000000, .seedBlocksXoshiro256ss .x8),
       (0b0011_00001110_100_00000000000000000, .seedFixedJsf64 .x16),
       (0b0101_00010111_000_00000000000000000, .fillChacha4),
       (0b0100_00011100_000_00000000000000000, .genSselcg)] = true := by decide +kernel

/-- The ill-formed words of 95_test_vectors.md 2.1, each with the test that rejects it. -/
theorem test_decode_rejects :
    ([(0x80000000, .reservedOp), (0xF0000000, .reservedOp), (0x40000000, .family), (0x41D00000, .family),
      (0x42020000, .family), (0x43040000, .family), (0x401A0000, .laneCount), (0x40100000, .laneCount),
      (0x41180000, .laneCount), (0x41720000, .laneCount), (0x41C40000, .laneCount), (0x60000001, .zeroField),
      (0x60100000, .controlFields), (0x70020000, .controlFields), (0x00020000, .controlFields),
      (0x40140001, .zeroField), (0x40150000, .zeroField)] : List (Word × Reject)).all
      (fun p => decode p.1 == .error p.2) = true := by decide +kernel

theorem test_decode_table_word : decodeTableWord 32 0x40140000 = some (.genXorshift32 .x4) := by decide +kernel

/-! ## Helpers -/

/-- An engine that holds an instance. -/
def seeded (f : Fam) (n : Lanes) (S : List LaneVec) : State :=
  { State.reset with cfg := cfgOf f n, valid := true, inst := ⟨S, [], false⟩ }

/-- The reset engine with listed entropy answers. -/
def withEnt (l : List EntAnswer) : State := { State.reset with ent := l }

/-- The reset engine with bytes in the seed FIFO. -/
def withFifo (l : List Byte) : State := { State.reset with fifo := l }

/-- A view of the next state. -/
def view {α : Type} (r : Result) (f : State → α) : Option α :=
  match r with
  | .next s => some (f s)
  | _ => none

/-- The words and OUT after a command. -/
def genView (i : Instr) (s : State) : Option (List LaneVec × List Byte) := view (exec i s) fun t => (t.inst.S, t.out)

/-- The error registers. -/
def errView (s : State) : ErrCode × Word × BitVec 32 := (s.err, s.errcmd, s.entcode)

/-! ## Reset -/

theorem test_reset_reads :
    [0x000, 0x004, 0x008, 0x00C, 0x010, 0x014, 0x018, 0x01C, 0x020].map State.reset.readReg
      = [0, 0, 0, 0, 0, 0, 0, 0, 0] := by decide +kernel

/-! ## The datapath (95_test_vectors.md 2.3) -/

theorem test_vadd_wraps : vadd ([0xFF, 0x80] : Vec 8) [0x01, 0x80] = [0, 0] := by decide
theorem test_vsub_wraps : vsub ([0x00, 0x7F] : Vec 8) [0x01, 0x80] = [0xFF, 0xFF] := by decide
theorem test_vmul_low : vmul ([0x10, 0xFF] : Vec 8) [0x10, 0xFF] = [0, 1] := by decide
theorem test_vnot : vnot ([0x0000, 0xFFFF, 0x1234] : Vec 16) = [0xFFFF, 0x0000, 0xEDCB] := by decide
theorem test_vshl : vshl ([1, 3] : Vec 32) 31 = [0x80000000, 0x80000000] := by decide
theorem test_vshr : vshr ([0x80000000, 0x7FFFFFFF] : Vec 32) 31 = [1, 0] := by decide
theorem test_vrotl : vrotl ([0x80000001, 0x12345678] : Vec 32) 39 = [0x000000C0, 0x1A2B3C09] := by decide
theorem test_vrotr : vrotr ([0x80000001, 0x12345678] : Vec 32) 7 = [0x03000000, 0xF02468AC] := by decide
theorem test_vrotrv :
    vrotrv ([0x12345678, 0x12345678, 0x12345678] : Vec 32) ([0, 31, 4] : Vec 32)
      = [0x12345678, 0x2468ACF0, 0x81234567] := by decide
theorem test_vwmul32 :
    vwmul32 [0xFFFFFFFFFFFFFFFF, 0x0000000500000007] [0xFFFFFFFF, 3] = [0xFFFFFFFE00000001, 0x15] := by decide +kernel
theorem test_add64x2 :
    add64x2 0xFFFFFFFFFFFFFFFFFFFFFFFFFFFFFFFF 0x10000000000000001 = 0 := by decide +kernel
theorem test_vle_unsigned : vle ([1, 0x80000000] : Vec 32) [1, 1] = [true, false] := by decide
theorem test_vselect : vselect [true, false] ([1, 2] : Vec 32) [3, 4] = [1, 4] := by decide
theorem test_any_all : (maskAny [true, false], maskAll [true, false], maskAny [false, false]) = (true, false, false) := by
  decide
theorem test_image16 : image ([0x1234, 0xABCD] : Vec 16) = [0x34, 0x12, 0xCD, 0xAB] := by decide +kernel
theorem test_le64 :
    le 64 2 [0xEF, 0xCD, 0xAB, 0x89, 0x67, 0x45, 0x23, 0x01, 1, 0, 0, 0, 0, 0, 0, 0]
      = [0x0123456789ABCDEF, 1] := by decide +kernel

/-- FIPS-197 appendix B round 1, as 40_lane_vector.md R142 gives it: the state. -/
def fipsV : BitVec 128 := 0x0848f8e92a8dc69a2be2f4a0bee33d19
/-- The round key of the same example. -/
def fipsK : BitVec 128 := 0x05766c2a3939a323b12c548817fefaa0

theorem test_aes_enc : aesEnc fipsV fipsK = 0x49506a0243ea5b6b2b359f68f27f9ca4 := by decide +kernel
theorem test_aes_enclast : aesEncLast fipsV fipsK = 0xe0ee4b34c828e29b1f7ee06827a34574 := by decide +kernel
theorem test_aes_dec : aesDec fipsV fipsK = 0x77f119e733d2524c6a8990bf82cd3e12 := by decide +kernel

/-! ## GEN (95_test_vectors.md 2.4 to 2.7): lane 0 small, lane 1 dense -/

theorem test_gen_xorshift32 :
    genView (.genXorshift32 .x2) (seeded .xorshift32 .x2
      [.u32 [1, 0xffffffff]])
    = some ([.u32 [0x42021, 0x3e01f]],
      image ([0x42021, 0x3e01f] : Vec 32)) := by decide +kernel

theorem test_gen_xorshift128 :
    genView (.genXorshift128 .x2) (seeded .xorshift128 .x2
      [.u32 [0x75bcd15, 1],
       .u32 [0x159a55e5, 0],
       .u32 [0x1f123bb5, 0],
       .u32 [0x5491333, 0]])
    = some ([.u32 [0x159a55e5, 0],
       .u32 [0x1f123bb5, 0],
       .u32 [0x5491333, 0],
       .u32 [0xdca345ea, 0x809]],
      image ([0xdca345ea, 0x809] : Vec 32)) := by decide +kernel

theorem test_gen_xorshift128plus :
    genView (.genXorshift128plus .x2) (seeded .xorshift128plus .x2
      [.u64 [1, 0x123456789abcdef],
       .u64 [2, 0xfedcba9876543210]])
    = some ([.u64 [2, 0xfedcba9876543210],
       .u64 [0x1000043, 0xb3cde3742f92fe05]],
      image ([3, 0xffffffffffffffff] : Vec 64)) := by decide +kernel

theorem test_gen_xoroshiro128ss :
    genView (.genXoroshiro128ss .x2) (seeded .xoroshiro128ss .x2
      [.u64 [1, 0x123456789abcdef],
       .u64 [2, 0xfedcba9876543210]])
    = some ([.u64 [0x1030003, 0x6789abcdef01dcba],
       .u64 [0x6000000000, 0xffffffffffffffff]],
      image ([0x1680, 0x9999999999998192] : Vec 64)) := by decide +kernel

theorem test_gen_xoshiro128ss :
    genView (.genXoshiro128ss .x2) (seeded .xoshiro128ss .x2
      [.u32 [1, 0x1234567],
       .u32 [2, 0x89abcdef],
       .u32 [3, 0xfedcba98],
       .u32 [4, 0x76543210]])
    = some ([.u32 [7, 0xfedcba98],
       .u32 [0, 0x76543210],
       .u32 [0x402, 0xa86421ff],
       .u32 [0x3000, 0xffffffff]],
      image ([0x2d00, 0x99998498] : Vec 32)) := by decide +kernel

theorem test_gen_xoshiro256ss :
    genView (.genXoshiro256ss .x2) (seeded .xoshiro256ss .x2
      [.u64 [1, 0x123456789abcdef],
       .u64 [2, 0xfedcba9876543210],
       .u64 [3, 0xf1e2d3c4b5a6978],
       .u64 [4, 0x8796a5b4c3d2e1f0]])
    = some ([.u64 [7, 0x78695a4b3c2d1e0f],
       .u64 [0, 0xf0e1d2c3b4a59687],
       .u64 [0x40002, 0x7b0d84f3a6d1a497],
       .u64 [0xc00000000000, 0xda7c0f2943e596b0]],
      image ([0x2d00, 0x6666666666666c65] : Vec 64)) := by decide +kernel

theorem test_gen_xoshiro512ss :
    genView (.genXoshiro512ss .x2) (seeded .xoshiro512ss .x2
      [.u64 [1, 0x101010101010101],
       .u64 [2, 0x202020202020202],
       .u64 [3, 0x303030303030303],
       .u64 [4, 0x404040404040404],
       .u64 [5, 0x505050505050505],
       .u64 [6, 0x606060606060606],
       .u64 [7, 0x707070707070707],
       .u64 [8, 0x808080808080808]])
    = some ([.u64 [6, 0x606060606060606],
       .u64 [0, 0],
       .u64 [2, 0x202020202020202],
       .u64 [1, 0x101010101010101],
       .u64 [1, 0x101010101010101],
       .u64 [4, 0x404040404040404],
       .u64 [0x100b, 0x1b1b1b1b1b1b1b0b],
       .u64 [0x1800000, 0x8181818181818181]],
      image ([0x2d00, 0x2d2d2d2d2d2d2d2d] : Vec 64)) := by decide +kernel

theorem test_gen_pcg32 :
    genView (.genPcg32 .x2) (seeded .pcg32 .x2
      [.u64 [0x185706b82c2e03f8, 0xf800000012345678],
       .u64 [0x6d, 1]])
    = some ([.u64 [0x2b47fed88766bb05, 0x4f07be451df0bb19],
       .u64 [0x6d, 1]],
      image ([0xa15c02b7, 0xf8004] : Vec 32)) := by decide +kernel

theorem test_gen_pcg32_xsh :
    genView (.genPcg32Xsh .x2) (seeded .pcg32Xsh .x2
      [.u64 [0x185706b82c2e03f8, 0],
       .u64 [0x6d, 1]])
    = some ([.u64 [0x2b47fed88766bb05, 1],
       .u64 [0x6d, 1]],
      image ([0xae015bd, 0] : Vec 32)) := by decide +kernel

theorem test_gen_pcg32_xsl :
    genView (.genPcg32Xsl .x2) (seeded .pcg32Xsl .x2
      [.u64 [0x2b47fed88766bb05, 1],
       .u64 [0x6d, 1]])
    = some ([.u64 [0x8b33296d19bf5b4e, 0x5851f42d4c957f2e],
       .u64 [0x6d, 1]],
      image ([0xac2145dd, 1] : Vec 32)) := by decide +kernel

theorem test_gen_lcg32 :
    genView (.genLcg32 .x2) (seeded .lcg32 .x2
      [.u64 [0x185706b82c2e03f8, 0],
       .u64 [0x6d, 1]])
    = some ([.u64 [0x2b47fed88766bb05, 1],
       .u64 [0x6d, 1]],
      image ([0x2c2e03f8, 0] : Vec 32)) := by decide +kernel

theorem test_gen_lcg16 :
    genView (.genLcg16 .x2) (seeded .lcg16 .x2
      [.u32 [0x23a2eb45, 1],
       .u32 [0x6d, 1]])
    = some ([.u32 [0xf6e76b36, 0x2c9277b6],
       .u32 [0x6d, 1]],
      image ([0xeb45, 1] : Vec 16)) := by decide +kernel

theorem test_gen_jsf32 :
    genView (.genJsf32 .x2) (seeded .jsf32 .x2
      [.u32 [0xf1ea5eed, 0x98412731],
       .u32 [1, 0x214ea92f],
       .u32 [1, 0x8e1eb90f],
       .u32 [1, 0x932ff020]])
    = some ([.u32 [0x10001, 0x98412731],
       .u32 [2, 0x214ea92f],
       .u32 [0xf1ea5cee, 0x8e1eb90f],
       .u32 [0xf1eb5cee, 0x932ff020]],
      image ([0xf1eb5cee, 0x932ff020] : Vec 32)) := by decide +kernel

theorem test_gen_jsf64 :
    genView (.genJsf64 .x2) (seeded .jsf64 .x2
      [.u64 [0xf1ea5eed, 0],
       .u64 [1, 0],
       .u64 [1, 0],
       .u64 [1, 0]])
    = some ([.u64 [0x801, 0],
       .u64 [2, 0],
       .u64 [0xffffff80f1ea5eee, 0],
       .u64 [0xffffff80f1ea66ee, 0]],
      image ([0xffffff80f1ea66ee, 0] : Vec 64)) := by decide +kernel

theorem test_gen_lfsr113 :
    genView (.genLfsr113 .x2) (seeded .lfsr113 .x2
      [.u32 [2, 0x3ade68b1],
       .u32 [8, 0x3ade68b1],
       .u32 [0x10, 0x3ade68b1],
       .u32 [0x80, 0x3ade68b1]])
    = some ([.u32 [0x80000, 0xa2c46a22],
       .u32 [0x20, 0xeb79a2da],
       .u32 [0x800, 0x6f345fbe],
       .u32 [0x100000, 0xcd1ec2d2]],
      image ([0x180820, 0xeb975594] : Vec 32)) := by decide +kernel

theorem test_gen_lfsr258 :
    genView (.genLfsr258 .x2) (seeded .lfsr258 .x2
      [.u64 [2, 0x1b69b4bacd05f15],
       .u64 [0x200, 0x1b69b4bacd05f15],
       .u64 [0x1000, 0x1b69b4bacd05f15],
       .u64 [0x20000, 0x1b69b4bacd05f15],
       .u64 [0x800000, 0x1b69b4bacd05f15]])
    = some ([.u64 [0x800, 0xda6d2eb3417c5016],
       .u64 [0x4000, 0x36d369759a0bd286],
       .u64 [0x20000000000, 0x759a0a1804822d94],
       .u64 [0x10000000000, 0xa5d6683765f23e36],
       .u64 [0x80000000, 0xb69b4bac8601208b]],
      image ([0x30080004800, 0x8a696e453c06b1b9] : Vec 64)) := by decide +kernel

theorem test_gen_mwc :
    genView (.genMwc .x2) (seeded .mwc .x2
      [.u64 [1, 0xffffffffffffffff]])
    = some ([.u64 [0xffffef4f, 0xeb4293ce14bd6c31]],
      image ([0xc0859cd33a06b035, 0xd77583ec43d5f529] : Vec 64)) := by decide +kernel

theorem test_gen_sfc64 :
    genView (.genSfc64 .x2) (seeded .sfc64 .x2
      [.u64 [1, 0],
       .u64 [2, 0],
       .u64 [3, 0],
       .u64 [1, 0xffffffffffffffff]])
    = some ([.u64 [2, 0],
       .u64 [0x1b, 0],
       .u64 [0x3000004, 0xffffffffffffffff],
       .u64 [2, 0]],
      image ([4, 0xffffffffffffffff] : Vec 64)) := by decide +kernel

theorem test_gen_sfc32 :
    genView (.genSfc32 .x2) (seeded .sfc32 .x2
      [.u32 [1, 0],
       .u32 [2, 0],
       .u32 [3, 0],
       .u32 [1, 0xffffffff]])
    = some ([.u32 [2, 0],
       .u32 [0x1b, 0],
       .u32 [0x600004, 0xffffffff],
       .u32 [2, 0]],
      image ([4, 0xffffffff] : Vec 32)) := by decide +kernel

theorem test_gen_sfc16 :
    genView (.genSfc16 .x2) (seeded .sfc16 .x2
      [.u16 [1, 0],
       .u16 [2, 0],
       .u16 [3, 0],
       .u16 [1, 0xffff]])
    = some ([.u16 [2, 0],
       .u16 [0x1b, 0],
       .u16 [0xc4, 0xffff],
       .u16 [2, 0]],
      image ([4, 0xffff] : Vec 16)) := by decide +kernel

/-- The ChaCha state of the all-zero key, nonce and counter. -/
def chachaZero : List LaneVec :=
  [.u32 [0x61707865], .u32 [0x3320646E], .u32 [0x79622D32], .u32 [0x6B206574]] ++ List.replicate 12 (.u32 [0])

theorem test_gen_chacha4 :
    genView .genChacha4 (seeded .chacha4 .x2 chachaZero)
    = some (chachaZero.set 12 (.u32 [1]), image ([0x137E860B, 0x544202B1, 0xF328BEC8, 0xF9DA367B, 0x28BFA54E, 0x0E8A389F, 0x7919A4B4, 0x323F2639,
        0x69727D19, 0x12E796EC, 0xD1875D88, 0x602BB1EC, 0x601C8A8D, 0x18CF3767, 0x60D10EBC, 0x17AA36CA] : Vec 32)) := by
  decide +kernel

theorem test_gen_chacha4f :
    genView .genChacha4f (seeded .chacha4f .x2 chachaZero)
    = some (chachaZero.set 12 (.u32 [1]), image ([0xF9B2F199, 0xCD8D9087, 0x47B27F3E, 0x99E040E9, 0x13221B69, 0xBD53C376, 0x5147E97C, 0xE591409D,
        0x7221B2BC, 0xF2C426A3, 0x60E9819B, 0xFF791AC9, 0x2AA7C969, 0xB363AB3F, 0x90FCC8EF, 0x79845F99] : Vec 32)) := by
  decide +kernel

/-- The carry of the block counter (44_chacha_aes_sse.md R262). -/
theorem test_gen_chacha4_counter_carry :
    view (exec .genChacha4 (seeded .chacha4 .x2 (chachaZero.set 12 (.u32 [0xFFFFFFFF])))) (fun t => t.inst.S)
      = some ((chachaZero.set 12 (.u32 [0])).set 13 (.u32 [1])) := by decide +kernel

theorem test_gen_ars5 :
    genView .genArs5 (seeded .ars5 .x2
      [.u128 [0x0F0E0D0C0B0A09080706050403020100], .u128 [0x1F1E1D1C1B1A19181716151413121110]])
    = some ([.u128 [0x0F0E0D0C0B0A09090706050403020101], .u128 [0x1F1E1D1C1B1A19181716151413121110]],
      [0x5a, 0x0b, 0x5e, 0x6f, 0x14, 0x36, 0x09, 0xe3, 0xc7, 0x30, 0x6e, 0xb1, 0x06, 0xfa, 0x7b, 0xa2]) := by
  decide +kernel

theorem test_gen_ars7 :
    genView .genArs7 (seeded .ars7 .x2 [.u128 [0], .u128 [0]])
    = some ([.u128 [0x00000000000000010000000000000001], .u128 [0]],
      [0xff, 0x61, 0xcf, 0xda, 0xf3, 0x98, 0x57, 0xc4, 0xeb, 0x7e, 0x3c, 0x11, 0xf3, 0x27, 0x1e, 0x10]) := by
  decide +kernel

/-- The first half of the pair, and the second half buffered (44_chacha_aes_sse.md R270). -/
theorem test_gen_aesrand_fresh :
    view (exec .genAesrand (seeded .aesrand .x2 [.u128 [0]])) (fun t => (t.inst, t.out))
    = some (⟨[.u128 [0x2F2B29251F1D1713110D0B0705030201]], [0xf46158456c71a13dfb3f7f3936436e66], true⟩,
      [0x35, 0xca, 0x38, 0x24, 0x07, 0x56, 0x7c, 0x92, 0xe4, 0x34, 0xae, 0x59, 0xd5, 0x5a, 0x8d, 0x55]) := by
  decide +kernel

/-- The buffered half: the counter stands still (44_chacha_aes_sse.md R270). -/
theorem test_gen_aesrand_buffered :
    view (exec .genAesrand { seeded .aesrand .x2 [.u128 [7]] with
      inst := ⟨[.u128 [7]], [0xf46158456c71a13dfb3f7f3936436e66], true⟩ }) (fun t => (t.inst, t.out))
    = some (⟨[.u128 [7]], [0xf46158456c71a13dfb3f7f3936436e66], false⟩,
      [0x66, 0x6e, 0x43, 0x36, 0x39, 0x7f, 0x3f, 0xfb, 0x3d, 0xa1, 0x71, 0x6c, 0x45, 0x58, 0x61, 0xf4]) := by
  decide +kernel

theorem test_gen_sselcg :
    genView .genSselcg (seeded .sselcg .x2 [.u32 [1, 2, 1, 2]])
    = some ([.u32 [0x0029E2C0, 0x009F26BD, 0x00D4E2C0, 0x00021B9B]],
      image ([0x0029E2C0, 0x009F26BD, 0x00D4E2C0, 0x00021B9B] : Vec 32)) := by decide +kernel

/-- XSM advances and its output has 4N bytes; its values are free (43_jsf_lfsr_mwc_sfc_xsm.md R228). -/
theorem test_gen_xsm32 :
    view (exec (.genXsm32 .x2) (seeded .xsm32 .x2 [.u32 [0, 0], .u32 [0, 0], .u32 [0, 0], .u32 [0, 0]]))
      (fun t => (t.inst.S.length, t.out.length)) = some (4, 8) := by decide +kernel

theorem test_gen_xsm64_unseeded :
    view (exec (.genXsm64 .x2) State.reset) errView = some (.notSeeded, 0x41620000, 0) := by decide +kernel

/-! ## Seeding (95_test_vectors.md 2.8) -/

/-- S1: a rejected draw, then an accepted one. -/
theorem test_seed_rng_xorshift32 :
    view (exec (.seedRngXorshift32 .x2) (withEnt [.ok [1, 0, 0, 0, 0, 0, 0, 0], .ok [1, 0, 0, 0, 0xFF, 0xFF, 0xFF, 0xFF]]))
      (fun t => (t.inst.S, t.status, t.ent)) = some ([.u32 [1, 0xFFFFFFFF]], 0x00010101, []) := by decide +kernel

/-- S2 and S3: the test is per lane. -/
theorem test_seed_rng_xorshift128 :
    view (exec (.seedRngXorshift128 .x2)
      (withEnt [.ok (image ([0, 0, 0, 0, 0, 0, 0, 1] : Vec 32)), .ok (image ([0, 0, 0, 0, 0, 0, 1, 1] : Vec 32))]))
      (fun t => (t.inst.S, t.valid))
    = some ([.u32 [0, 0], .u32 [0, 0], .u32 [0, 0], .u32 [1, 1]], true) := by decide +kernel

/-- S4. -/
theorem test_seed_rng_pcg32 :
    view (exec (.seedRngPcg32 .x2) (withEnt [.ok (image ([0x185706B82C2E03F8, 0, 0x6C, 0] : Vec 64))]))
      (fun t => (t.inst.S, t.status)) = some ([.u64 [0x185706B82C2E03F8, 0], .u64 [0x6D, 1]], 0x00010801) := by
  decide +kernel

/-- S6. -/
theorem test_seed_rng_jsf32 :
    view (exec (.seedRngJsf32 .x2) (withEnt
      [.ok (image ([0, 0x77777777, 0, 0x55555555, 0, 0x11111111, 0, 0x44444444] : Vec 32))])) (fun t => t.inst.S)
    = some [.u32 [0, 0x77777777], .u32 [0, 0x55555555], .u32 [0, 0x11111111], .u32 [1, 0x44444445]] := by decide +kernel

/-- S9: words 0 and 2 are drawn again, words 1 and 3 are kept. -/
theorem test_seed_rng_lfsr113 :
    view (exec (.seedRngLfsr113 .x2) (withEnt
      [.ok (image ([1, 5, 8, 8, 16, 15, 128, 128] : Vec 32)), .ok (image ([2, 5] : Vec 32)), .ok (image ([16, 16] : Vec 32))]))
      (fun t => (t.inst.S, t.status, t.draws))
    = some ([.u32 [2, 5], .u32 [8, 8], .u32 [16, 16], .u32 [128, 128]], 0x00010F01, 3) := by decide +kernel

/-- S13. -/
theorem test_seed_rng_chacha4 :
    view (exec .seedRngChacha4 (withEnt [.ok (List.replicate 32 0)])) (fun t => (t.inst.S, t.status))
      = some (chachaZero, 0x00001701) := by decide +kernel

/-- S14. -/
theorem test_seed_rng_ars5 :
    view (exec .seedRngArs5 (withEnt [.ok ((List.range 32).map (BitVec.ofNat 8))])) (fun t => t.inst.S)
      = some [.u128 [0x0F0E0D0C0B0A09080706050403020100], .u128 [0x1F1E1D1C1B1A19181716151413121110]] := by decide +kernel

/-- S17: no instance after an entropy failure. -/
theorem test_seed_rng_fails :
    view (exec (.seedRngJsf32 .x2) { seeded .jsf32 .x2 [] with ent := [.fail 0xC0000005] })
      (fun t => (errView t, t.status, t.inst)) = some ((.entropy, 0x10D20000, 0xC0000005), 4, Inst.empty) := by
  decide +kernel

/-- S18: a failure in a re-draw. -/
theorem test_seed_rng_lfsr113_fails :
    view (exec (.seedRngLfsr113 .x2) (withEnt [.ok (image ([1, 5, 8, 8, 16, 16, 128, 128] : Vec 32)), .fail 7]))
      (fun t => (errView t, t.valid, t.inst)) = some ((.entropy, 0x10F20000, 7), false, Inst.empty) := by decide +kernel

/-- S19: three jumps after a rejected draw. -/
theorem test_seed_blocks_xoroshiro128ss :
    view (exec (.seedBlocksXoroshiro128ss .x4) (withEnt [.ok (List.replicate 16 0), .ok (image ([1, 2] : Vec 64))]))
      (fun t => (t.inst.S, t.status))
    = some ([.u64 [0x0000000000000001, 0x66FBD4BE1DF0A7B5, 0x83DBF8EA76F400CF, 0xCAF29D696DD8A3C3],
             .u64 [0x0000000000000002, 0x830C3DDBB4AA3172, 0xD06A7F7F73635C1A, 0xC650A40388D02321]], 0x00020401) := by
  decide +kernel

/-- S20. -/
theorem test_seed_blocks_xoshiro256ss :
    view (exec (.seedBlocksXoshiro256ss .x2) (withEnt [.ok (image ([1, 2, 3, 4] : Vec 64))])) (fun t => t.inst.S)
    = some [.u64 [1, 0x8C7A153956B5F3D1], .u64 [2, 0x701F1A713401D85E], .u64 [3, 0x6527F66A65469085],
            .u64 [4, 0x8386B786C4408050]] := by decide +kernel

/-- S21 and E16: the instance is kept. -/
theorem test_seed_blocks_unsupported :
    view (exec (.seedBlocksXorshift32 .x2) (seeded .xorshift32 .x2 [.u32 [1, 2]])) (fun t => (errView t, t.inst.S, t.status))
      = some ((.unsupported, 0x20120000, 0), [.u32 [1, 2]], 0x00010105) := by decide +kernel

/-- S22. -/
theorem test_seed_fixed_xorshift32 :
    view (exec (.seedFixedXorshift32 .x2) (withFifo [1, 0, 0, 0, 0xFF, 0xFF, 0xFF, 0xFF]))
      (fun t => (t.inst.S, t.status, t.fifo)) = some ([.u32 [1, 0xFFFFFFFF]], 0x00010101, []) := by decide +kernel

/-- S23. -/
theorem test_seed_fixed_degenerate :
    view (exec (.seedFixedXorshift32 .x2) (withFifo [1, 0, 0, 0, 0, 0, 0, 0])) (fun t => (errView t, t.status, t.fifo))
      = some ((.badSeed, 0x30120000, 0), 4, []) := by decide +kernel

/-- S24. -/
theorem test_seed_fixed_short :
    view (exec (.seedFixedXorshift32 .x2) (withFifo [1, 2, 3, 4, 5, 6, 7])) (fun t => (errView t, t.valid, t.fifo))
      = some ((.badSeed, 0x30120000, 0), false, []) := by decide +kernel

/-- S25: the FIFO is emptied, the instance is kept. -/
theorem test_seed_fixed_unsupported :
    view (exec (.seedFixedXorshift32 .x2)
      { seeded .xorshift32 .x2 [.u32 [1, 2]] with
        fifo := [1, 0, 0, 0, 1, 0, 0, 0], par := { defaultParams with fixedSeed := [] } })
      (fun t => (errView t, t.inst.S, t.valid, t.fifo))
      = some ((.unsupported, 0x30120000, 0), [.u32 [1, 2]], true, []) := by decide +kernel

/-- S27. -/
theorem test_seed_fixed_lfsr113 :
    view (exec (.seedFixedLfsr113 .x2) (withFifo (image ([2, 5, 8, 7, 16, 16, 128, 128] : Vec 32)))) errView
      = some (.badSeed, 0x30F20000, 0) := by decide +kernel

/-! ## FILL (95_test_vectors.md 2.9) -/

/-- The start of the FILL vectors with a value in LEN. -/
def fillStart (len : BitVec 32) : State :=
  { seeded .xorshift32 .x4 [.u32 [1, 2, 0x80000000, 0x92D68CA2]] with len := len }

theorem test_fill_partial :
    genView (.fillXorshift32 .x4) (fillStart 7)
      = some ([.u32 [0x00042021, 0x00084042, 0x80084000, 0x2B1F4D63]], [0x21, 0x20, 0x04, 0x00, 0x42, 0x40, 0x08]) := by
  decide +kernel

theorem test_fill_two_steps :
    view (exec (.fillXorshift32 .x4) (fillStart 17)) (fun t => (t.inst.S, t.out.length, t.out.getD 16 0, t.len))
      = some ([.u32 [0x04080601, 0x08008C02, 0x89088484, 0x94DACB7A]], 17, 0x01, 17) := by decide +kernel

/-- P5: a fill of one and a half halves of AESRAND. -/
theorem test_fill_aesrand :
    view (exec .fillAesrand { seeded .aesrand .x2 [.u128 [0]] with len := 24 }) (fun t => (t.out, t.inst.bufv))
      = some ([0x35, 0xca, 0x38, 0x24, 0x07, 0x56, 0x7c, 0x92, 0xe4, 0x34, 0xae, 0x59, 0xd5, 0x5a, 0x8d, 0x55,
               0x66, 0x6e, 0x43, 0x36, 0x39, 0x7f, 0x3f, 0xfb], false) := by decide +kernel

/-! ## Errors, registers and the host (95_test_vectors.md 2.10, 2.11) -/

/-- E8: the instance and OUT are kept. -/
theorem test_gen_mismatch :
    view (exec (.genXorshift32 .x4) (seeded .xorshift32 .x2 [.u32 [1, 0xFFFFFFFF]]))
      (fun t => (errView t, t.status, t.inst.S, t.out))
      = some ((.mismatch, 0x40140000, 0), 0x00010105, [.u32 [1, 0xFFFFFFFF]], []) := by decide +kernel

/-- E3: the ill-formed check comes first. -/
theorem test_step_illegal :
    view (step (State.reset.withFetchWord 32 0x40100000)) errView = some (.illegal, 0x40100000, 0) := by decide +kernel

/-- E1. -/
theorem test_step_not_seeded :
    view (step (State.reset.withFetchWord 32 0x40120000)) (fun t => (errView t, t.status))
      = some ((.notSeeded, 0x40120000, 0), 4) := by decide +kernel

/-- E4 and E5: ignored, the first error kept. -/
theorem test_step_blocked :
    view (step ((State.reset.raise .notSeeded 0x40120000 0).withFetchWord 32 0x80000000)) errView
      = some (.notSeeded, 0x40120000, 0) := by decide +kernel

/-- E7. -/
theorem test_clrerr :
    view (exec .clrerr (State.reset.raise .entropy 0x10D20000 5)) errView = some (.none, 0, 0) := by decide +kernel

/-- E13: OUT's history is kept. -/
theorem test_reset_command :
    view (exec .reset { fillStart 9 with out := [1], fifo := [2] }) (fun t => (t.out, t.status, t.len, t.fifo))
      = some ([1], 0, 0, []) := by decide +kernel

theorem test_nop : view (exec .nop (fillStart 9)) (fun t => t.len) = some 9 := by decide +kernel

/-- E15: a full FIFO drops the byte. -/
theorem test_seed_push_full :
    (State.hostWrite { State.reset with fifo := List.replicate 2048 0 } 0x014 1).fifo.length = 2048 := by decide +kernel

/-- The window of 95_test_vectors.md 2.2, third row, and past its image. -/
theorem test_window :
    [0x400, 0x404, 0x40C, 0x410].map
      (seeded .xorshift32 .x4 [.u32 [0x00042021, 0x00084042, 0x80084000, 0x2B1F4D63]]).readReg
      = [0x00042021, 0x00084042, 0x2B1F4D63, 0] := by decide +kernel

/-- A host access that is not an aligned 32-bit one is refused. -/
theorem test_access_refused :
    (match step { State.reset with host := [.read 0x002 32] } with | .refused r => some r | _ => none)
      = some (.notAligned32 0x002 32) := by decide +kernel

/-- A host access outside the register space faults. -/
theorem test_access_outside :
    (match step { State.reset with host := [.read 0x800 32] } with | .fault r => some r | _ => none)
      = some (.outsideRegisterSpace 0x800) := by decide +kernel

/-! ## Witnesses: for every statement with hypotheses, concrete states and operands that meet them, at the boundaries -/

/-- The reset engine with one host action to come. -/
def acting (a : HostAction) : State := { State.reset with host := [a] }

/-- The reset engine with an error recorded and one host action to come. -/
def erring (a : HostAction) : State := { acting a with err := .badSeed, errcmd := 0x30120000 }

theorem witness_hardware_reset : Performs (acting .reset) .reset [] := ⟨rfl, rfl⟩

theorem witness_wf : (Instr.genMwc .x8).wf = true ∧ (Instr.fillSselcg).wf = true ∧ decode 0x41160000 = .ok (.genMwc .x8) := by
  decide

/-- StepRunsTheDecodedCommand, and the four words of CommandIssueFollowsItsFiveSteps. -/
theorem witness_issue :
    (Issues (acting (.write 0 32 0x41160000)) 0x41160000 [] ∧ decode 0x41160000 = .ok (.genMwc .x8) ∧
      (acting (.write 0 32 0x41160000)).err = .none) ∧
    Issues (erring (.write 0 32 0x60000000)) 0x60000000 [] ∧ Issues (erring (.write 0 32 0x70000000)) 0x70000000 [] ∧
    (Issues (erring (.write 0 32 0)) 0 [] ∧ (erring (.write 0 32 0)).err ≠ .none) ∧
    (Issues (acting (.write 0 32 0x60000001)) 0x60000001 [] ∧ (acting (.write 0 32 0x60000001)).err = .none) :=
  ⟨⟨⟨rfl, rfl⟩, rfl, rfl⟩, ⟨rfl, rfl⟩, ⟨rfl, rfl⟩, ⟨⟨rfl, rfl⟩, by decide⟩, ⟨rfl, rfl⟩, rfl⟩

theorem witness_no_command : ∀ i, decode 0x60000001 ≠ .ok i := by
  intro i h
  rw [show decode 0x60000001 = .error .zeroField from rfl] at h
  cases h

/-- The least and the greatest word of each way to be ill-formed (60_exceptions.md R381). -/
def illFormed : List Word :=
  [0x80000000, 0xFFFFFFFF, 0x00000001, 0x00010000, 0x00100000, 0x60020000, 0x70100000, 0x10020000, 0x51D20000, 0x5FF20000,
   0x401A0000, 0x401E0000, 0x40100000, 0x41600000, 0x41720000, 0x41C80000, 0x41180000]

theorem witness_ill_formed :
    (∀ w ∈ illFormed, Issues (acting (.write 0 32 w)) w []) ∧
    (∀ w ∈ illFormed,
      let op := w.toNat / 2 ^ 28
      let fam := w.toNat / 2 ^ 20 % 256
      let ln := w.toNat / 2 ^ 17 % 8
      7 < op ∨ w.toNat % 2 ^ 17 ≠ 0 ∨
      ((op = 0 ∨ op = 6 ∨ op = 7) ∧ (fam ≠ 0 ∨ ln ≠ 0)) ∨
      (1 ≤ op ∧ op ≤ 5 ∧
        (fam = 0 ∨ 0x1C < fam ∨ 4 < ln ∨ (ln = 0 ∧ fam < 0x17) ∨ (ln ≠ 0 ∧ 0x17 ≤ fam) ∨ (ln = 4 ∧ fam = 0x11)))) :=
  ⟨fun _ _ => ⟨rfl, rfl⟩, by simp [illFormed]⟩

/-- The clauses of AnErrorBlocksAllButClrerrAndReset. -/
theorem witness_blocked :
    (erring .reset).err ≠ .none ∧
    Performs (erring (.read 0x000 32)) (.read 0x000 32) [] ∧ Performs (erring (.read 0x7FC 32)) (.read 0x7FC 32) [] ∧
    Performs (erring (.write 0x010 32 7)) (.write 0x010 32 7) [] ∧
    (Performs (erring (.write 0x014 32 7)) (.write 0x014 32 7) [] ∧ (erring (.write 0x014 32 7)).fifo.length < 2048) :=
  ⟨by decide, ⟨rfl, rfl⟩, ⟨rfl, rfl⟩, ⟨rfl, rfl⟩, ⟨rfl, rfl⟩, by decide⟩

/-- Register reads and writes at the first and the last offset of each clause. -/
theorem witness_accesses :
    (∀ off ∈ [0x000, 0x004, 0x008, 0x00C, 0x010, 0x014, 0x018, 0x01C, 0x020, 0x3FC],
      Performs (acting (.read off 32)) (.read off 32) [] ∧ off % 4 = 0 ∧ off < 0x400) ∧
    (∀ off ∈ [0x000, 0x004, 0x00C, 0x010, 0x014, 0x018, 0x7FC],
      Performs (acting (.write off 32 0)) (.write off 32 0) [] ∧ Performs (acting (.read off 32)) (.read off 32) [] ∧
      off % 4 = 0 ∧ off < 0x800) :=
  ⟨fun off h => ⟨⟨rfl, rfl⟩, by revert off; decide⟩, fun off h => ⟨⟨rfl, rfl⟩, ⟨rfl, rfl⟩, by revert off; decide⟩⟩

/-- An AESRAND instance that holds a buffered half, and a read of the window's first and last word. -/
def buffered (a : HostAction) : State :=
  { acting a with cfg := cfgOf .aesrand .x2, valid := true, inst := ⟨[.u128 [1]], [2], true⟩ }

theorem witness_window :
    (∀ i ∈ [0, 7, 255], Performs (buffered (.read (0x400 + 4 * i) 32)) (.read (0x400 + 4 * i) 32) [] ∧ i < 256) ∧
    Fam.aesrand.admits .x2 = true ∧ (buffered .reset).valid = true ∧ (buffered .reset).cfg = cfgOf .aesrand .x2 ∧
    HoldsShape (buffered .reset) .aesrand .x2 ∧ (buffered .reset).inst.buf.length = 1 ∧
    (acting (.read 0x400 32)).valid = false :=
  ⟨by intro i h; exact ⟨⟨rfl, rfl⟩, by revert i; decide⟩, rfl, rfl, rfl,
    ⟨⟨rfl, by simp [buffered, LaneVec.Shaped, famWidth, shapeLanes]⟩, fun _ _ => rfl⟩, rfl, rfl⟩

/-- An AESRAND instance before its first GEN, read at the last word of the counter, the first and the last without a value, and
the first past them. -/
theorem witness_window_before_gen :
    let s (i : Nat) : State := { seeded .aesrand .x2 [.u128 [1]] with host := [.read (0x400 + 4 * i) 32] }
    (∀ i ∈ [3, 4, 7, 8], Performs (s i) (.read (0x400 + 4 * i) 32) [] ∧ i < 256) ∧ (s 3).valid = true ∧
    (s 3).cfg = cfgOf .aesrand .x2 ∧ HoldsShape (s 3) .aesrand .x2 ∧ (s 3).inst.buf = [] :=
  ⟨by intro i h; exact ⟨⟨rfl, rfl⟩, by revert i; decide⟩, rfl, rfl,
    ⟨⟨rfl, by simp [seeded, LaneVec.Shaped, famWidth, shapeLanes]⟩, nofun⟩, rfl⟩

/-- An access of 16 bits, a misaligned one, and the first and last aligned ones outside the register space. -/
theorem witness_outside :
    Performs (acting (.read 0x000 16)) (.read 0x000 16) [] ∧ Performs (acting (.write 0x002 32 0)) (.write 0x002 32 0) [] ∧
    Performs (acting (.read 0x800 32)) (.read 0x800 32) [] ∧
    Performs (acting (.write 0xFFFFFFFC 32 0)) (.write 0xFFFFFFFC 32 0) [] :=
  ⟨⟨rfl, rfl⟩, ⟨rfl, rfl⟩, ⟨rfl, rfl⟩, ⟨rfl, rfl⟩⟩

/-- GenAndFillCheckTheInstance: no instance, another family, and the same family at another lane count. -/
theorem witness_mismatch :
    Fam.mwc.admits .x8 = true ∧ State.reset.err = .none ∧ State.reset.valid = false ∧
    (seeded .sselcg .x2 [.u32 [1, 2, 3, 4]]).valid = true ∧ (seeded .sselcg .x2 [.u32 [1, 2, 3, 4]]).cfg ≠ cfgOf .mwc .x8 ∧
    (seeded .mwc .x4 [.u64 [1, 2, 3, 4]]).cfg ≠ cfgOf .mwc .x8 := by decide

/-! ### GEN -/

/-- The checks of GEN pass on an instance that was seeded with some words. -/
theorem ready_seeded {f : Fam} {n : Lanes} (h : f.admits n = true) (S : List LaneVec) : Ready (seeded f n S) f n :=
  ⟨h, rfl, rfl, rfl⟩

theorem witness_gen_xorshift :
    (Ready (seeded .xorshift32 .x2 [.u32 [1, 0]]) .xorshift32 .x2) ∧
    (Ready (seeded .xorshift128 .x2 (quad32 [⟨1, 2, 3, 4⟩, ⟨0, 0, 0, 0⟩])) .xorshift128 .x2) ∧
    (Ready (seeded .xorshift128plus .x2 (pair64 [⟨1, 2⟩, ⟨0, 0⟩])) .xorshift128plus .x2) ∧
    (Ready (seeded .xoroshiro128ss .x2 (pair64 [⟨1, 2⟩, ⟨3, 4⟩])) .xoroshiro128ss .x2) ∧
    (Ready (seeded .xoshiro128ss .x2 (quad32 [⟨1, 2, 3, 4⟩, ⟨5, 6, 7, 8⟩])) .xoshiro128ss .x2) ∧
    (Ready (seeded .xoshiro256ss .x2 (quad64 [⟨1, 2, 3, 4⟩, ⟨5, 6, 7, 8⟩])) .xoshiro256ss .x2) ∧
    (Ready (seeded .xoshiro512ss .x2 (eight64 [⟨1, 2, 3, 4, 5, 6, 7, 8⟩, ⟨1, 0, 0, 0, 0, 0, 0, 0⟩])) .xoshiro512ss .x2) := by
  refine ⟨?_, ?_, ?_, ?_, ?_, ?_, ?_⟩ <;> exact ready_seeded rfl _

theorem witness_gen_pcg_lcg :
    Ready (seeded .pcg32 .x2 (pair64 [⟨1, 3⟩, ⟨2, 5⟩])) .pcg32 .x2 ∧
    Ready (seeded .pcg32Xsh .x2 (pair64 [⟨1, 3⟩, ⟨2, 5⟩])) .pcg32Xsh .x2 ∧
    Ready (seeded .pcg32Xsl .x2 (pair64 [⟨1, 3⟩, ⟨2, 5⟩])) .pcg32Xsl .x2 ∧
    Ready (seeded .lcg32 .x2 (pair64 [⟨1, 3⟩, ⟨2, 5⟩])) .lcg32 .x2 ∧
    Ready (seeded .lcg16 .x2 (pair32 [⟨1, 3⟩, ⟨2, 5⟩])) .lcg16 .x2 ∧ State.reset.par.pcgXshOut = .standard ∧
    ({ defaultParams with pcgXslOut := .other } : Params).pcgXslOut = .other := by
  refine ⟨?_, ?_, ?_, ?_, ?_, rfl, rfl⟩ <;> exact ready_seeded rfl _

theorem witness_gen_jsf_to_sfc :
    Ready (seeded .jsf32 .x2 (quad32 [⟨1, 2, 3, 4⟩, ⟨5, 6, 7, 8⟩])) .jsf32 .x2 ∧
    Ready (seeded .jsf64 .x2 (quad64 [⟨1, 2, 3, 4⟩, ⟨5, 6, 7, 8⟩])) .jsf64 .x2 ∧
    Ready (seeded .lfsr113 .x2 (quad32 [⟨2, 8, 16, 128⟩, ⟨3, 9, 17, 129⟩])) .lfsr113 .x2 ∧
    Ready (seeded .lfsr258 .x2 (five64 [⟨2, 512, 4096, 131072, 8388608⟩, ⟨3, 513, 4097, 131073, 8388609⟩])) .lfsr258 .x2 ∧
    (Ready (seeded .mwc .x8 [.u64 (List.replicate 8 1)]) .mwc .x8 ∧ (List.replicate 8 (1 : BitVec 64)).length = Lanes.x8.count) ∧
    Ready (seeded .sfc64 .x2 (quad64 [⟨1, 2, 3, 4⟩, ⟨5, 6, 7, 8⟩])) .sfc64 .x2 ∧
    Ready (seeded .sfc32 .x2 (quad32 [⟨1, 2, 3, 4⟩, ⟨5, 6, 7, 8⟩])) .sfc32 .x2 ∧
    Ready (seeded .sfc16 .x2 (quad16 [⟨1, 2, 3, 4⟩, ⟨5, 6, 7, 8⟩])) .sfc16 .x2 := by
  refine ⟨?_, ?_, ?_, ?_, ⟨?_, rfl⟩, ?_, ?_, ?_⟩ <;> exact ready_seeded rfl _

/-- The corner case of R222, at the threshold and below it, for a row of the default table. -/
theorem witness_lfsr_corner :
    defaultLfsr113Tab[0].k.val + defaultLfsr113Tab[0].s1.val ≤ defaultLfsr113Tab[0].s2.val ∧
    (1 : BitVec 32).toNat ≤ 2 ^ defaultLfsr113Tab[0].k.val - 1 ∧ (0 : BitVec 32).toNat ≤ 2 ^ defaultLfsr113Tab[0].k.val - 1 := by
  decide

/-- XSM at its default of four words, and at the least and greatest. -/
theorem witness_gen_xsm :
    (Ready (seeded .xsm32 .x2 (words32 4 [[1, 2, 3, 4], [5, 6, 7, 8]])) .xsm32 .x2 ∧ State.reset.par.xsmExtra = 1 ∧
      ∀ l ∈ ([[1, 2, 3, 4], [5, 6, 7, 8]] : List (List (BitVec 32))), l.length = 3 + (1 : Fin 14).val) ∧
    (Ready (seeded .xsm64 .x2 (words64 4 [[1, 2, 3, 4], [5, 6, 7, 8]])) .xsm64 .x2 ∧
      ({ defaultParams with xsmExtra := 0 } : Params).xsmK = 3 ∧ ({ defaultParams with xsmExtra := 13 } : Params).xsmK = 16) :=
  ⟨⟨ready_seeded rfl _, rfl, by decide⟩, ready_seeded rfl _, rfl, rfl⟩

theorem witness_gen_chacha_to_sselcg :
    (Ready (seeded .chacha4 .x2 (oneLane32 (ChachaFresh (List.replicate 8 7)))) .chacha4 .x2 ∧
      (ChachaFresh (List.replicate 8 7)).length = 16) ∧
    Ready (seeded .chacha4f .x2 (oneLane32 (ChachaFresh (List.replicate 8 7)))) .chacha4f .x2 ∧
    Ready (seeded .ars5 .x2 [.u128 [Ref.join 1 2], .u128 [Ref.join 3 4]]) .ars5 .x2 ∧
    Ready (seeded .ars7 .x2 [.u128 [Ref.join 1 2], .u128 [Ref.join 3 4]]) .ars7 .x2 ∧
    (Ready (seeded .aesrand .x2 [.u128 [1]]) .aesrand .x2 ∧ (seeded .aesrand .x2 [.u128 [1]]).inst.bufv = false) ∧
    (Ready (buffered .reset) .aesrand .x2 ∧ (buffered .reset).inst.bufv = true) ∧
    Ready (seeded .sselcg .x2 [.u32 [1, 2, 3, 4]]) .sselcg .x2 :=
  ⟨⟨ready_seeded rfl _, rfl⟩, ready_seeded rfl _, ready_seeded rfl _, ready_seeded rfl _, ⟨ready_seeded rfl _, rfl⟩,
    ⟨⟨rfl, rfl, rfl, rfl⟩, rfl⟩, ready_seeded rfl _⟩

/-- A register of N lanes of W bits, all 1. -/
def ones (W N : Nat) : LaneVec :=
  match W with
  | 16 => .u16 (List.replicate N 1)
  | 32 => .u32 (List.replicate N 1)
  | 64 => .u64 (List.replicate N 1)
  | _ => .u128 (List.replicate N 1)

/-- Words of the shape of a family. -/
def shapedWords (f : Fam) (n : Lanes) : List LaneVec :=
  List.replicate (famWords defaultParams f) (ones (famWidth f) (shapeLanes f n))

/-- HoldsShape, for every family: GenAppendsOneChunkAndKeepsTheShape and the statements about FILL. -/
theorem witness_shape (f : Fam) (n : Lanes) : HoldsShape (seeded f n (shapedWords f n)) f n := by
  refine ⟨⟨by simp [seeded, shapedWords, State.reset], fun w hw => ?_⟩, fun _ h => by simp [seeded] at h⟩
  obtain rfl := List.eq_of_mem_replicate hw
  cases f <;> simp [ones, famWidth, LaneVec.Shaped]

/-- A lane that is degenerate beside one that is not. -/
theorem witness_zero_lane :
    avoidsZero .xorshift32 = true ∧ Ready (seeded .xorshift32 .x2 [.u32 [0, 1]]) .xorshift32 .x2 ∧
    HoldsShape (seeded .xorshift32 .x2 [.u32 [0, 1]]) .xorshift32 .x2 ∧ Degenerate [.u32 [0, 1]] 0 ∧
    ¬ Degenerate [.u32 [0, 1]] 1 ∧ ∃ t, exec (Instr.gen .xorshift32 .x2) (seeded .xorshift32 .x2 [.u32 [0, 1]]) = .next t :=
  ⟨rfl, ready_seeded rfl _, ⟨⟨rfl, by simp [seeded, LaneVec.Shaped, famWidth, shapeLanes, Lanes.count]⟩, fun h => by cases h⟩,
    by simp [Degenerate, LaneVec.ZeroAt], by simp [Degenerate, LaneVec.ZeroAt], _, rfl⟩

/-! ### FILL -/

/-- No byte, one chunk, and lengths at the edge of the sum's range (VB = 16). -/
theorem witness_fill :
    Ready (fillStart 0) .xorshift32 .x4 ∧ (fillStart 0).len = 0 ∧
    HoldsShape (fillStart 17) .xorshift32 .x4 ∧ chunkSize .xorshift32 .x4 ∣ (16 : Word).toNat ∧
    chunkSize .xorshift32 .x4 ∣ (0 : Word).toNat ∧ (16 : Word).toNat + (0xFFFFFFEF : Word).toNat < 2 ^ 32 :=
  ⟨⟨rfl, rfl, rfl, rfl⟩, rfl,
    ⟨⟨rfl, by simp [fillStart, seeded, LaneVec.Shaped, famWidth, shapeLanes, Lanes.count]⟩, fun h => by cases h⟩,
    by decide, by decide, by decide⟩

/-! ### Seeding -/

/-- One draw with a degenerate lane, then one without: XORSHIFT32, and MWC with its default MWC_ZERO_AVOID. -/
theorem witness_seed_redraw :
    (avoidsZero .xorshift32 = true ∧ Shaped defaultParams .xorshift32 .x2 [.u32 [5, 0]] ∧ Degenerate [.u32 [5, 0]] 1 ∧
      Shaped defaultParams .xorshift32 .x2 [.u32 [1, 2]] ∧ ∀ j < Lanes.x2.count, ¬ Degenerate [.u32 [1, 2]] j) ∧
    (defaultParams.mwcZeroAvoid = true ∧ Shaped defaultParams .mwc .x2 [.u64 [0, 1]] ∧ Degenerate [.u64 [0, 1]] 0) := by
  refine ⟨⟨rfl, ⟨rfl, ?_⟩, ?_, ⟨rfl, ?_⟩, ?_⟩, rfl, ⟨rfl, ?_⟩, ?_⟩ <;>
    simp [LaneVec.Shaped, famWidth, shapeLanes, Lanes.count, Degenerate, LaneVec.ZeroAt]
  intro j hj
  rcases (by omega : j = 0 ∨ j = 1) with rfl | rfl <;> simp

/-- The fixups: an even increment, a tuple of the bad list, a ChaCha key; and MWC without the test. -/
theorem witness_seed_loads :
    SeedLoads defaultParams .pcg32 .x2 (stateBytes (pair64 [⟨1, 2⟩, ⟨3, 5⟩])) (pair64 [⟨1, 3⟩, ⟨3, 5⟩]) ∧
    SeedLoads defaultParams .lcg16 .x2 (stateBytes (pair32 [⟨1, 2⟩, ⟨3, 5⟩])) (pair32 [⟨1, 3⟩, ⟨3, 5⟩]) ∧
    SeedLoads defaultParams .jsf32 .x2 (stateBytes (quad32 [⟨0, 0, 0, 0⟩, ⟨1, 2, 3, 4⟩])) (quad32 [⟨0, 0, 0, 1⟩, ⟨1, 2, 3, 4⟩]) ∧
    SeedLoads defaultParams .jsf64 .x2 (stateBytes (quad64 [⟨0, 0, 0, 0⟩, ⟨1, 2, 3, 4⟩])) (quad64 [⟨0, 0, 0, 1⟩, ⟨1, 2, 3, 4⟩]) ∧
    SeedLoads defaultParams .chacha4 .x2 (image (List.replicate 8 (7 : BitVec 32)))
      (oneLane32 (ChachaFresh (List.replicate 8 7))) ∧
    SeedLoads { defaultParams with mwcZeroAvoid := false } .mwc .x2 (stateBytes [.u64 [0, 0]]) [.u64 [0, 0]] :=
  ⟨⟨_, rfl, rfl, by decide⟩, ⟨_, rfl, rfl, by decide⟩, ⟨_, rfl, rfl, by decide⟩, ⟨_, rfl, rfl, by decide⟩,
    ⟨_, rfl, rfl, rfl⟩, ⟨rfl, by simp [LaneVec.Shaped, famWidth, shapeLanes, Lanes.count]⟩, rfl⟩

/-- S9: words 0 and 2 are drawn again once, the others are kept; and the second word drawn again twice. -/
theorem witness_seed_lfsr :
    List.Forall₂ (fun (r : LfsrRow 32) w => WordHistory 2 (2 ^ r.k.val - 1) w.1 w.2.1 w.2.2) defaultLfsr113Tab.toList
      ([([1, 5], [[2, 5]], [2, 5]), ([8, 8], [], [8, 8]), ([16, 15], [[16, 16]], [16, 16]), ([128, 128], [], [128, 128])] :
        List (Vec 32 × List (Vec 32) × Vec 32)) ∧
    List.Forall₂ (fun (r : LfsrRow 64) w => WordHistory 2 (2 ^ r.k.val - 1) w.1 w.2.1 w.2.2) defaultLfsr258Tab.toList
      ([([2, 2], [], [2, 2]), ([511, 512], [[512, 0], [512, 512]], [512, 512]), ([4096, 4096], [], [4096, 4096]),
       ([131072, 131072], [], [131072, 131072]), ([8388608, 8388608], [], [8388608, 8388608])] :
        List (Vec 64 × List (Vec 64) × Vec 64)) := by
  constructor <;>
    simp [defaultLfsr113Tab, defaultLfsr258Tab, WordHistory, Vector.toList]

/-- A rejected draw before a failed one; an LFSR word at its threshold; and an all-zero scalar. -/
theorem witness_seed_fails :
    (∃ R, SeedLoads defaultParams .xorshift32 .x2 (List.replicate 8 0) R ∧ ¬ Accepted defaultParams .xorshift32 .x2 R) ∧
    Shaped defaultParams .lfsr113 .x2 (quad32 [⟨1, 8, 16, 128⟩, ⟨2, 8, 16, 128⟩]) ∧
    ¬ Accepted defaultParams .lfsr113 .x2 (quad32 [⟨1, 8, 16, 128⟩, ⟨2, 8, 16, 128⟩]) ∧
    (withEnt (List.replicate 1 (.ok (List.replicate (8 * famWords defaultParams .xoroshiro128ss) 0)) ++ [.fail 5])).err = .none :=
  ⟨⟨[.u32 [0, 0]], ⟨⟨rfl, by simp [LaneVec.Shaped, famWidth, shapeLanes, Lanes.count]⟩, by decide⟩,
      fun h => h 0 (by decide) (by simp [Degenerate, LaneVec.ZeroAt])⟩,
    ⟨rfl, by simp [quad32, LaneVec.Shaped, famWidth, shapeLanes, Lanes.count]⟩,
    by simp [Accepted, quad32, LaneVec.as32, AboveThresholds, defaultParams, defaultLfsr113Tab, Vector.toList], rfl⟩

/-- A failure at a re-draw of an LFSR word: in LFSR113 after word 0 is kept by a second draw and word 1 is rejected twice, and
in LFSR258 at the first re-draw of the last word, whose lane is at its threshold. -/
theorem witness_lfsr_fails :
    List.Forall₂ (fun (r : LfsrRow 32) w => WordHistory 2 (2 ^ r.k.val - 1) w.1 w.2.1 w.2.2)
      (defaultLfsr113Tab.toList.take 1) ([([1, 5], [[2, 5]], [2, 5])] : List (Vec 32 × List (Vec 32) × Vec 32)) ∧
    defaultLfsr113Tab.toList[1]? = some ⟨2, 27, 3, 2⟩ ∧ WordRejected 2 (2 ^ (3 : Fin 32).val - 1) ([7, 9] : Vec 32) [[9, 0]] ∧
    1 + 1 + ([[0, 0], [0, 0]] : List (Vec 32)).length = defaultLfsr113Tab.toList.length ∧
    List.Forall₂ (fun (r : LfsrRow 64) w => WordHistory 2 (2 ^ r.k.val - 1) w.1 w.2.1 w.2.2)
      (defaultLfsr258Tab.toList.take 4)
      ([([2, 2], [], [2, 2]), ([512, 512], [], [512, 512]), ([4096, 4096], [], [4096, 4096]),
        ([131072, 131072], [], [131072, 131072])] : List (Vec 64 × List (Vec 64) × Vec 64)) ∧
    defaultLfsr258Tab.toList[4]? = some ⟨3, 33, 23, 8⟩ ∧ WordRejected 2 (2 ^ (23 : Fin 64).val - 1) ([8388607, 8388608] : Vec 64) [] ∧
    4 + 1 + ([] : List (Vec 64)).length = defaultLfsr258Tab.toList.length := by
  refine ⟨?_, rfl, ?_, rfl, ?_, rfl, ?_, rfl⟩ <;>
    simp [defaultLfsr113Tab, defaultLfsr258Tab, WordHistory, WordRejected, Vector.toList]

/-- Two rejected scalars, then one that is not zero. -/
theorem witness_seed_blocks :
    (⟨1, 0⟩ : Ref.Two 64) ≠ ⟨0, 0⟩ ∧ (⟨0, 0, 0, 1⟩ : Ref.Four 64) ≠ ⟨0, 0, 0, 0⟩ ∧
    (withEnt (List.replicate 2 (.ok (List.replicate 16 0)) ++ [.ok (stateBytes (pair64 [⟨1, 0⟩]))])).err = .none ∧
    Fam.sselcg ≠ .xoroshiro128ss ∧ Fam.sselcg ≠ .xoshiro256ss ∧ Fam.sselcg.admits .x2 = true := by decide

/-- A seed that is taken, one of the wrong length, one that is refused, and a family without a fixed seed. -/
theorem witness_seed_fixed :
    Fam.xorshift32 ∈ (withFifo [1, 0, 0, 0, 2, 0, 0, 0]).par.fixedSeed ∧
    SeedLoads defaultParams .xorshift32 .x2 [1, 0, 0, 0, 2, 0, 0, 0] [.u32 [1, 2]] ∧
    Accepted defaultParams .xorshift32 .x2 [.u32 [1, 2]] ∧
    ([1, 0, 0, 0, 2, 0, 0] : List Byte).length ≠ seedLength defaultParams .xorshift32 .x2 ∧
    Fam.xorshift32 ∉ ({ defaultParams with fixedSeed := [] } : Params).fixedSeed := by
  refine ⟨by decide, ⟨⟨rfl, by simp [LaneVec.Shaped, famWidth, shapeLanes, Lanes.count]⟩, by decide⟩, ?_, by decide, by decide⟩
  exact witness_seed_redraw.1.2.2.2.2

/-- The same bytes in the FIFO and as the first answer, and SEED_RNG ends with that draw. -/
theorem witness_seed_agrees :
    let s : State := { withFifo [1, 0, 0, 0, 2, 0, 0, 0] with ent := [.ok [1, 0, 0, 0, 2, 0, 0, 0]] }
    s.fifo.length = seedLength s.par .xorshift32 .x2 ∧
    ∃ t, exec (Instr.seedRng .xorshift32 .x2) s = .next t ∧ t.valid = true ∧ t.draws = s.draws + 1 ∧ t.err = .none :=
  ⟨rfl, _, rfl, by decide +kernel, by decide +kernel, by decide +kernel⟩

/-- The default bad lists meet R322's side condition. -/
theorem witness_bad_lists : BadListOk defaultParams.jsf32Bad ∧ BadListOk defaultParams.jsf64Bad := by
  constructor <;> (unfold BadListOk; decide)

theorem witness_valid_states :
    (Shaped defaultParams .xorshift32 .x2 [.u32 [1, 2]] ∧ ValidState defaultParams .xorshift32 .x2 [.u32 [1, 2]]) ∧
    (Shaped defaultParams .pcg32 .x2 (pair64 [⟨0, 1⟩, ⟨0, 3⟩]) ∧ ValidState defaultParams .pcg32 .x2 (pair64 [⟨0, 1⟩, ⟨0, 3⟩])) ∧
    (Shaped defaultParams .jsf64 .x2 (quad64 [⟨0, 0, 0, 1⟩, ⟨0, 0, 0, 2⟩]) ∧
      ValidState defaultParams .jsf64 .x2 (quad64 [⟨0, 0, 0, 1⟩, ⟨0, 0, 0, 2⟩])) := by
  refine ⟨⟨witness_seed_redraw.1.2.2.2.1, witness_seed_redraw.1.2.2.2.2⟩, ⟨⟨rfl, ?_⟩, ?_⟩, ⟨rfl, ?_⟩, _, rfl, ?_⟩
  · simp [pair64, LaneVec.Shaped, famWidth, shapeLanes, Lanes.count]
  · simp [ValidState, OddInc, pair64]
  · simp [quad64, LaneVec.Shaped, famWidth, shapeLanes, Lanes.count]
  · unfold NotBad; decide

/-- A seeding of each kind with nothing that holds the host: one that ends in its instance and two that end in E_ENTROPY; and
a state that a seeding holds for ever. -/
theorem witness_seeding_ends :
    (let s := withEnt [.ok [1, 0, 0, 0, 2, 0, 0, 0]]
     s.err = .none ∧ s.pend = none ∧ ∃ t, exec (Instr.seedRng .xorshift32 .x2) s = .next t ∧ t.valid = true ∧ t.err = .none) ∧
    (let s := withEnt [.fail 5]
     s.pend = none ∧ ∃ t, exec (Instr.seedRng .lfsr113 .x2) s = .next t ∧ t.err = .entropy ∧ t.pend = none) ∧
    (let s := withEnt [.fail 5]
     s.pend = none ∧ ∃ t, exec (Instr.seedBlocks .xoshiro256ss .x16) s = .next t ∧ t.err = .entropy ∧ t.pend = none) ∧
    ({ State.reset with pend := some (.seedRngLfsr113 .x2) } : State).pend ≠ none :=
  ⟨⟨rfl, rfl, _, rfl, by decide +kernel, by decide +kernel⟩, ⟨rfl, _, rfl, by decide +kernel, by decide +kernel⟩,
    ⟨rfl, _, rfl, by decide +kernel, by decide +kernel⟩, by decide⟩

/-! ### The machine as a whole -/

/-- A state that meets the invariant with an instance, and takes a step that is not the hardware reset. -/
theorem witness_invariant :
    let s : State := { seeded .xorshift32 .x2 [.u32 [1, 2]] with host := [.write 0 32 0x40120000] }
    Inv s ∧ (∃ t, step s = .next t) ∧ ∀ rest, ¬ Performs s .reset rest := by
  refine ⟨⟨by decide, fun _ => ⟨.xorshift32, .x2, rfl, rfl, ⟨⟨rfl, ?_⟩, fun h => (by cases h)⟩, trivial⟩,
    fun h => (by cases h), fun h => (by cases h), fun _ => rfl, fun _ => rfl, fun i h => (by cases h)⟩, ⟨_, rfl⟩, ?_⟩
  · simp [seeded, LaneVec.Shaped, famWidth, shapeLanes, Lanes.count]
  · rintro rest ⟨-, h⟩; cases h

/-- A seeding makes an instance, RESET takes it away, and neither appends to OUT. -/
theorem witness_lifecycle :
    (∃ t, exec (.seedRngXorshift32 .x2) (withEnt [.ok [1, 0, 0, 0, 2, 0, 0, 0]]) = .next t ∧ t.valid = true) ∧
    (∃ t, exec .reset (fillStart 0) = .next t ∧ t.valid = false) ∧ (fillStart 0).valid = true ∧
    ∀ f n, Instr.reset ≠ Instr.gen f n ∧ Instr.reset ≠ Instr.fill f n :=
  ⟨⟨_, rfl, by decide +kernel⟩, ⟨_, rfl, rfl⟩, rfl, fun f _ => (by cases f <;> exact ⟨nofun, nofun⟩)⟩

/-! ### The datapath -/

/-- Lanes at the ends of their range, and the greatest shift. -/
theorem witness_lanes :
    ([0xFFFF, 0] : Vec 16)[0]? = some 0xFFFF ∧ ([1, 0xFFFF] : Vec 16)[0]? = some 1 ∧ 15 < 16 ∧
    ([true, false] : Mask)[1]? = some false ∧ ([3] : Vec 64)[0]? = some 3 ∧ (16 : Nat) % 8 = 0 ∧
    image ([1, 2] : Vec 16) = [1, 0, 2, 0] ∧ ([0xFFFF, 0] : Vec 16).length = ([1, 0xFFFF] : Vec 16).length ∧
    ([true, false] : Mask).length = ([1, 0xFFFF] : Vec 16).length := by decide

end Sys2Proof.Tests
end

section
/-! O49: a seeding is one transition, with the three ends of 45_seeding.md R346. Each of the three seeding loops ends in the
same way (`SeedEnd.Ends`); what the accepted words are is the loop's own, and the end of the command follows from it. -/

namespace Sys2Proof.Machine

/-! ## The words of a seeding that succeeds (45_seeding.md R304) -/

theorem getLsbD_zero_or_one {W : Nat} (hW : 0 < W) (x : BitVec W) : (x ||| 1).getLsbD 0 = true := by
  simp [hW]

theorem oddInc_fixed_pair64 (ls : List (Ref.Two 64)) : OddInc (pair64 (ls.map fun l => ⟨l.a, l.b ||| 1⟩)) := by
  intro x hx
  obtain ⟨l, -, rfl⟩ : ∃ l ∈ ls, l.b ||| 1 = x := by simpa using hx
  exact getLsbD_zero_or_one (by decide) l.b

theorem oddInc_fixed_pair32 (ls : List (Ref.Two 32)) : OddInc (pair32 (ls.map fun l => ⟨l.a, l.b ||| 1⟩)) := by
  intro x hx
  obtain ⟨l, -, rfl⟩ : ∃ l ∈ ls, l.b ||| 1 = x := by simpa using hx
  exact getLsbD_zero_or_one (by decide) l.b

/-- The fixup leaves no lane in the bad list: a lane that was in it becomes the tuple that the side condition of
45_seeding.md R322 keeps out of it. -/
theorem notBad_map_jsfFix {W : Nat} {bad : List (JsfTuple W)} (hb : BadListOk bad) (ls : List (Ref.Four W)) :
    NotBad bad (ls.map (Ref.jsfFix bad)) := by
  intro l hl
  obtain ⟨l, -, rfl⟩ := List.mem_map.1 hl
  by_cases h : (⟨l.a, l.b, l.c, l.d⟩ : JsfTuple W) ∈ bad
  · simpa [Ref.jsfFix, h] using hb _ h
  · simp [Ref.jsfFix, h]

/-- Words that a seed image loads and that the test accepts are a valid state (45_seeding.md R304, R317, R322, R332). -/
theorem SeedLoads.validState {p : Params} {f : Fam} {n : Lanes} {b : List Byte} {S : List LaneVec}
    (h : SeedLoads p f n b S) (ha : Accepted p f n S) (h32 : BadListOk p.jsf32Bad) (h64 : BadListOk p.jsf64Bad) :
    ValidState p f n S := by
  cases f
  case pcg32 | pcg32Xsh | pcg32Xsl | lcg32 =>
    obtain ⟨ls, -, -, rfl⟩ := h
    exact oddInc_fixed_pair64 ls
  case lcg16 =>
    obtain ⟨ls, -, -, rfl⟩ := h
    exact oddInc_fixed_pair32 ls
  case jsf32 =>
    obtain ⟨ls, -, -, rfl⟩ := h
    exact ⟨_, rfl, notBad_map_jsfFix h32 ls⟩
  case jsf64 =>
    obtain ⟨ls, -, -, rfl⟩ := h
    exact ⟨_, rfl, notBad_map_jsfFix h64 ls⟩
  case chacha4 | chacha4f =>
    obtain ⟨key, hk, -, rfl⟩ := h
    exact ⟨key, hk, rfl⟩
  all_goals exact ha

/-! ## The words of SEED_BLOCKS (45_seeding.md R339, R340): K words of N lanes, kept by every step of the jump -/

/-- K vectors of N lanes. -/
def WordsOf (K N : Nat) (s : List (Vec 64)) : Prop := s.length = K ∧ ∀ w ∈ s, w.length = N

theorem shaped_map_u64 {K N : Nat} {s : List (Vec 64)} (h : WordsOf K N s) :
    (s.map LaneVec.u64).length = K ∧ ∀ w ∈ s.map LaneVec.u64, w.Shaped 64 N := by
  obtain ⟨hK, hN⟩ := h
  refine ⟨by simpa using hK, fun w hw => ?_⟩
  obtain ⟨v, hv, rfl⟩ := List.mem_map.1 hw
  exact ⟨rfl, hN v hv⟩

theorem map_as64_u64 (s : List (Vec 64)) : (s.map LaneVec.u64).map LaneVec.as64 = s := by
  simp [Function.comp_def, LaneVec.as64]

theorem map_as32_u32 (s : List (Vec 32)) : (s.map LaneVec.u32).map LaneVec.as32 = s := by
  simp [Function.comp_def, LaneVec.as32]

theorem zipWith_vxor_wordsOf {K N : Nat} {s t : List (Vec 64)} (hs : WordsOf K N s) (ht : WordsOf K N t) :
    WordsOf K N (List.zipWith vxor s t) := by
  refine ⟨by simp [hs.1, ht.1], fun w hw => ?_⟩
  obtain ⟨i, hi, rfl⟩ := List.mem_iff_getElem.1 hw
  rw [List.getElem_zipWith, vxor_length, hs.2 _ (List.getElem_mem _), ht.2 _ (List.getElem_mem _), Nat.min_self]

theorem map_zero_wordsOf {K N : Nat} {s : List (Vec 64)} (hs : WordsOf K N s) : WordsOf K N (s.map (vsplat 0)) := by
  refine ⟨by simp [hs.1], fun w hw => ?_⟩
  obtain ⟨v, hv, rfl⟩ := List.mem_map.1 hw
  rw [vsplat_length, hs.2 v hv]

theorem xoroshiro128Next_wordsOf {N : Nat} {s : List (Vec 64)} (hs : WordsOf 2 N s) :
    WordsOf 2 N (xoroshiro128Next s) := by
  obtain ⟨hK, hN⟩ := hs
  match s, hK with
  | [s0, s1], _ =>
    simp only [List.mem_cons, List.not_mem_nil, or_false, forall_eq_or_imp, forall_eq] at hN
    simp [WordsOf, xoroshiro128Next, xoroshiro128, vxor_length, vrotl_length, vshl_length, hN]

theorem xoshiro256Next_wordsOf {N : Nat} {s : List (Vec 64)} (hs : WordsOf 4 N s) :
    WordsOf 4 N (xoshiro256Next s) := by
  obtain ⟨hK, hN⟩ := hs
  match s, hK with
  | [s0, s1, s2, s3], _ =>
    simp only [List.mem_cons, List.not_mem_nil, or_false, forall_eq_or_imp, forall_eq] at hN
    simp [WordsOf, xoshiro256Next, xoshiro4, vxor_length, vrotl_length, vshl_length, hN]

/-- The sum and the walking state of the jump, both K vectors of N lanes (45_seeding.md R339). -/
def PairOf (K N : Nat) (p : List (Vec 64) × List (Vec 64)) : Prop := WordsOf K N p.1 ∧ WordsOf K N p.2

section
variable {K N : Nat} {step : List (Vec 64) → List (Vec 64)}

theorem jumpBit_pairOf (hstep : ∀ s, WordsOf K N s → WordsOf K N (step s)) (P : BitVec 64) (b : Nat)
    {p : List (Vec 64) × List (Vec 64)} (hp : PairOf K N p) : PairOf K N (jumpBit step P p b) := by
  obtain ⟨hsum, hwalk⟩ := hp
  refine ⟨?_, hstep _ hwalk⟩
  unfold jumpBit
  split
  · exact zipWith_vxor_wordsOf hsum hwalk
  · exact hsum

theorem jumpWord_pairOf (hstep : ∀ s, WordsOf K N s → WordsOf K N (step s)) (P : BitVec 64)
    {p : List (Vec 64) × List (Vec 64)} (hp : PairOf K N p) : PairOf K N (jumpWord step p P) :=
  List.foldlRecOn (List.range 64) (jumpBit step P) hp fun _ hq b _ => jumpBit_pairOf hstep P b hq

theorem jump_wordsOf (hstep : ∀ s, WordsOf K N s → WordsOf K N (step s)) (poly : List (BitVec 64))
    {s : List (Vec 64)} (hs : WordsOf K N s) : WordsOf K N (jump poly step s) :=
  have walked : PairOf K N (poly.foldl (jumpWord step) (s.map (vsplat 0), s)) :=
    List.foldlRecOn poly (jumpWord step) ⟨map_zero_wordsOf hs, hs⟩ fun _ hp P _ => jumpWord_pairOf hstep P hp
  walked.1

end

/-- Word k of the lanes' states, one after another, has one lane for each of them. -/
theorem orbit_flatMap_length {K : Nat} {jmp : List (Vec 64) → List (Vec 64)}
    (hj : ∀ s, WordsOf K 1 s → WordsOf K 1 (jmp s)) {k : Nat} (hk : k < K) (N : Nat) {s : List (Vec 64)}
    (hs : WordsOf K 1 s) : ((orbit jmp N s).flatMap fun lane => lane.getD k []).length = N := by
  induction N generalizing s with
  | zero => rfl
  | succ N ih =>
    have hks : k < s.length := hs.1.symm ▸ hk
    have hword : (s.getD k []).length = 1 := by
      rw [List.getD_eq_getElem _ _ hks]; exact hs.2 _ (List.getElem_mem hks)
    rw [orbit, List.flatMap_cons, List.length_append, hword, ih (hj s hs), Nat.add_comm]

theorem spread_wordsOf {K : Nat} {jmp : List (Vec 64) → List (Vec 64)}
    (hj : ∀ s, WordsOf K 1 s → WordsOf K 1 (jmp s)) (N : Nat) {s : List (Vec 64)} (hs : WordsOf K 1 s) :
    WordsOf K N (spread jmp N s) := by
  refine ⟨by simp [spread, hs.1], fun w hw => ?_⟩
  obtain ⟨k, hk, rfl⟩ := List.mem_map.1 hw
  exact orbit_flatMap_length hj (by simpa [hs.1] using hk) N hs

/-- The registers of SEED_BLOCKS have K words of N lanes, whatever scalar seed was drawn (45_seeding.md R340, R341). -/
theorem seedBlocks_words_shaped {K : Nat} {step : List (Vec 64) → List (Vec 64)}
    (hstep : ∀ s, WordsOf K 1 s → WordsOf K 1 (step s)) (poly : List (BitVec 64)) (N : Nat) (b : List Byte) :
    let S := (spread (jump poly step) N ((load64 K 1 b).map LaneVec.as64)).map LaneVec.u64
    S.length = K ∧ ∀ w ∈ S, w.Shaped 64 N := by
  have hs : WordsOf K 1 (seedWords 64 1 K b) := ⟨seedWords_length 64 1 K b, seedWords_lanes 64 1 K b⟩
  rw [load64, map_as64_u64]
  exact shaped_map_u64 (spread_wordsOf (fun _ h => jump_wordsOf hstep poly h) N hs)

/-! ## The ends of a seeding (45_seeding.md R346) -/

/-- What every seeding loop, entered at `s`, guarantees of its end: nothing but the answers left and the counter has changed,
accepted words satisfy `P`, and a seeding that never ends has no listed answer left. -/
structure SeedEnd.Ends (e : SeedEnd) (s : State) (P : List LaneVec → Prop) : Prop where
  drawn : DrawnFrom s e.state
  words : ∀ S t, e = .done S t → P S
  spent : ∀ t, e = .never t → t.ent = []

theorem SeedEnd.Ends.mono {e : SeedEnd} {s : State} {P Q : List LaneVec → Prop} (h : e.Ends s P)
    (hPQ : ∀ S, P S → Q S) : e.Ends s Q :=
  ⟨h.drawn, fun S t he => hPQ S (h.words S t he), h.spent⟩

theorem seedLoop_ends (p : SeedProc) (s : State) :
    (seedLoop p s.answered s.dropInstance).Ends s.dropInstance fun S =>
      ∃ b : List Byte, b.length = p.sb ∧ S = p.load b ∧ p.accept S = true := by
  obtain ⟨hd, hw, hn⟩ := seedLoop_spec p s.answered s.dropInstance
  exact ⟨hd, hw, fun t ht => hn t ht s.answered_le⟩

theorem lfsrSeed_ends {W : Nat} (mk : Vec W → LaneVec) (tab : List (LfsrRow W)) (N : Nat) (s : State) :
    (lfsrSeed mk tab N s.answered s.dropInstance).Ends s.dropInstance fun S =>
      ∃ ws : List (Vec W), S = ws.map mk ∧ ws.length = tab.length ∧ (∀ w ∈ ws, w.length = N) ∧
        AboveThresholds tab ws := by
  obtain ⟨hd, hw, hn⟩ := lfsrSeed_spec mk tab N s.answered s.dropInstance
  exact ⟨hd, hw, fun t ht => hn t ht s.answered_le⟩

/-- The words a SEED_RNG leaves: of their family's shape, and valid under the side condition of 45_seeding.md R322. -/
def SeededWords (p : Params) (f : Fam) (n : Lanes) (S : List LaneVec) : Prop :=
  Shaped p f n S ∧ (BadListOk p.jsf32Bad → BadListOk p.jsf64Bad → ValidState p f n S)

theorem seededWords_of_load {p : Params} {f : Fam} {n : Lanes} {b : List Byte} {S : List LaneVec}
    (hb : b.length = (seedProcOf p f n).sb) (hS : S = (seedProcOf p f n).load b)
    (ha : (seedProcOf p f n).accept S = true) : SeededWords p f n S := by
  have hl : SeedLoads p f n b S := (seedLoads_iff p f n b S).2 ⟨by rw [hb, seedProcOf_sb], hS.symm⟩
  exact ⟨hl.shaped, hl.validState ((accept_iff hl.shaped).1 ha)⟩

theorem seededWords_lfsr113 {p : Params} {n : Lanes} {ws : List (Vec 32)}
    (hK : ws.length = p.lfsr113Tab.toList.length) (hN : ∀ w ∈ ws, w.length = n.count)
    (ha : AboveThresholds p.lfsr113Tab.toList ws) : SeededWords p .lfsr113 n (ws.map .u32) := by
  refine ⟨⟨by simpa [famWords] using hK, fun w hw => ?_⟩, fun _ _ => ?_⟩
  · obtain ⟨v, hv, rfl⟩ := List.mem_map.1 hw
    exact ⟨rfl, hN v hv⟩
  · simpa only [ValidState, Accepted, map_as32_u32] using ha

theorem seededWords_lfsr258 {p : Params} {n : Lanes} {ws : List (Vec 64)}
    (hK : ws.length = p.lfsr258Tab.toList.length) (hN : ∀ w ∈ ws, w.length = n.count)
    (ha : AboveThresholds p.lfsr258Tab.toList ws) : SeededWords p .lfsr258 n (ws.map .u64) := by
  refine ⟨shaped_map_u64 ⟨by simpa [famWords] using hK, hN⟩, fun _ _ => ?_⟩
  simpa only [ValidState, Accepted, map_as64_u64] using ha

/-- SEED_RNG of every family is the end of a loop whose accepted words are the family's (45_seeding.md R300, R303, R324). -/
theorem exec_seedRng_ends (f : Fam) (n : Lanes) (s : State) (hf : f.admits n = true) (he : s.err = .none) :
    ∃ e : SeedEnd, exec (Instr.seedRng f n) s = .next (e.finish (Instr.seedRng f n) (cfgOf f n) id) ∧
      e.Ends s.dropInstance (SeededWords s.par f n) := by
  have hw : (Instr.seedRng f n).wf = true := by rw [wf_seedRng, hf]
  by_cases h1 : f = .lfsr113
  · subst h1
    refine ⟨_, congrArg Host.Outcome.next (State.command_ok he hw _),
      (lfsrSeed_ends .u32 s.par.lfsr113Tab.toList n.count s).mono ?_⟩
    rintro _ ⟨ws, rfl, hK, hN, ha⟩
    exact seededWords_lfsr113 hK hN ha
  by_cases h2 : f = .lfsr258
  · subst h2
    refine ⟨_, congrArg Host.Outcome.next (State.command_ok he hw _),
      (lfsrSeed_ends .u64 s.par.lfsr258Tab.toList n.count s).mono ?_⟩
    rintro _ ⟨ws, rfl, hK, hN, ha⟩
    exact seededWords_lfsr258 hK hN ha
  · rw [exec_seedRng h1 h2, State.seedRngWith, State.command_ok he hw]
    refine ⟨_, rfl, (seedLoop_ends _ s).mono ?_⟩
    rintro S ⟨b, hb, hS, ha⟩
    exact seededWords_of_load hb hS ha

/-- SEED_BLOCKS of the two families that have it is the end of a loop whose accepted words are spread over the lanes
(45_seeding.md R340, R341). -/
theorem exec_seedBlocks_ends {f : Fam} (hf : f = .xoroshiro128ss ∨ f = .xoshiro256ss) (n : Lanes) (s : State)
    (hn : f.admits n = true) (he : s.err = .none) :
    ∃ (e : SeedEnd) (post : List LaneVec → List LaneVec),
      exec (Instr.seedBlocks f n) s = .next (e.finish (Instr.seedBlocks f n) (cfgOf f n) post) ∧
      e.Ends s.dropInstance fun S => Shaped s.par f n (post S) := by
  have hw : (Instr.seedBlocks f n).wf = true := by rw [wf_seedBlocks, hn]
  rcases hf with rfl | rfl
  · refine ⟨_, _, congrArg Host.Outcome.next (State.command_ok he hw _), (seedLoop_ends (procScalar 2) s).mono ?_⟩
    rintro _ ⟨b, -, rfl, -⟩
    exact seedBlocks_words_shaped (fun _ => xoroshiro128Next_wordsOf) _ n.count b
  · refine ⟨_, _, congrArg Host.Outcome.next (State.command_ok he hw _), (seedLoop_ends (procScalar 4) s).mono ?_⟩
    rintro _ ⟨b, -, rfl, -⟩
    exact seedBlocks_words_shaped (fun _ => xoshiro256Next_wordsOf) _ n.count b

theorem seedBlocks_ne_seedRng (f : Fam) (n : Lanes) : Instr.seedBlocks f n ≠ Instr.seedRng f n := by
  cases f <;> nofun

/-- Every seeding command, as one loop's end. -/
theorem exec_seeding_ends {i : Instr} {f : Fam} {n : Lanes} {s : State} (hf : f.admits n = true) (he : s.err = .none)
    (hi : i = Instr.seedRng f n ∨ (i = Instr.seedBlocks f n ∧ (f = .xoroshiro128ss ∨ f = .xoshiro256ss))) :
    ∃ (e : SeedEnd) (post : List LaneVec → List LaneVec), exec i s = .next (e.finish i (cfgOf f n) post) ∧
      e.Ends s.dropInstance fun S => Shaped s.par f n (post S) ∧
        (i = Instr.seedRng f n → BadListOk s.par.jsf32Bad → BadListOk s.par.jsf64Bad →
          ValidState s.par f n (post S)) := by
  rcases hi with rfl | ⟨rfl, hfam⟩
  · obtain ⟨e, hx, hends⟩ := exec_seedRng_ends f n s hf he
    exact ⟨e, id, hx, hends.mono fun S hS => ⟨hS.1, fun _ => hS.2⟩⟩
  · obtain ⟨e, post, hx, hends⟩ := exec_seedBlocks_ends hfam n s hf he
    exact ⟨e, post, hx, hends.mono fun S hS => ⟨hS, fun h => absurd h (seedBlocks_ne_seedRng f n)⟩⟩

theorem DrawnFrom.eq_update {s t : State} (h : DrawnFrom s t) :
    ∃ ent draws, t = { s with ent := ent, draws := draws } := ⟨t.ent, t.draws, h⟩

/-- A machine that a seeding holds stays as it is (45_seeding.md R346; log 5). -/
theorem step_of_pend {s : State} (h : s.pend ≠ none) : step s = .next s := by
  rcases step_cases s with ⟨-, hs⟩ | ⟨hp, -⟩ | ⟨_, _, hp, -⟩
  · exact hs
  · exact absurd hp h
  · exact absurd hp h

/-- Settles O49, by the end of the seeding's loop: accepted words, a failure, or never. -/
theorem aSeedingIsOneTransitionOrNeverEnds : Obligations.ASeedingIsOneTransitionOrNeverEnds := by
  refine ⟨fun i f n s hf he hp hi => ?_, fun s => step_of_pend⟩
  obtain ⟨e, post, hx, hends⟩ := exec_seeding_ends hf he hi
  obtain ⟨ent, draws, hd⟩ := hends.drawn.eq_update
  refine ⟨_, hx, ?_⟩
  cases e with
  | done S u =>
    obtain ⟨hshape, hvalid⟩ := hends.words S u rfl
    obtain rfl : u = _ := hd
    exact ⟨rfl, .inl ⟨hp, he, rfl, rfl, rfl, rfl, hshape, rfl, hvalid⟩⟩
  | failed code u =>
    obtain rfl : u = _ := hd
    exact ⟨rfl, .inr (.inl ⟨hp, rfl, rfl, rfl, rfl, rfl⟩)⟩
  | never u =>
    have hspent := hends.spent u rfl
    obtain rfl : u = _ := hd
    exact ⟨rfl, .inr (.inr ⟨rfl, he, rfl, rfl, rfl, hspent⟩)⟩

end Sys2Proof.Machine
end

section
/-! O50 and O51: what every step keeps (10_state.md R21, R22, R25, R28, R33). The instance's half of it is a predicate on
the registers alone (`InstOk`), which each family's step keeps; the rest follows the operations over the state
(`Running`), and the step is one of these operations. -/

namespace Sys2Proof.Machine

/-! ## Registers of a shape, read as vectors (10_state.md R22) -/

section
variable {i : Inst} {K N k : Nat}

theorem Inst.s16_length (hK : i.S.length = K) (hs : ∀ w ∈ i.S, w.Shaped 16 N) (hk : k < K) : (i.s16 k).length = N := by
  obtain ⟨vs, hS, hv⟩ := shaped16 hs
  have hk : k < vs.length := by simpa [hS, ← hK] using hk
  simpa [Inst.s16, hS, hk, LaneVec.as16] using hv _ (List.getElem_mem hk)

theorem Inst.s32_length (hK : i.S.length = K) (hs : ∀ w ∈ i.S, w.Shaped 32 N) (hk : k < K) : (i.s32 k).length = N := by
  obtain ⟨vs, hS, hv⟩ := shaped32 hs
  have hk : k < vs.length := by simpa [hS, ← hK] using hk
  simpa [Inst.s32, hS, hk, LaneVec.as32] using hv _ (List.getElem_mem hk)

theorem Inst.s64_length (hK : i.S.length = K) (hs : ∀ w ∈ i.S, w.Shaped 64 N) (hk : k < K) : (i.s64 k).length = N := by
  obtain ⟨vs, hS, hv⟩ := shaped64 hs
  have hk : k < vs.length := by simpa [hS, ← hK] using hk
  simpa [Inst.s64, hS, hk, LaneVec.as64] using hv _ (List.getElem_mem hk)

theorem Inst.s128_length (hK : i.S.length = K) (hs : ∀ w ∈ i.S, w.Shaped 128 N) (hk : k < K) :
    (i.s128 k).length = N := by
  obtain ⟨vs, hS, hv⟩ := shaped128 hs
  have hk : k < vs.length := by simpa [hS, ← hK] using hk
  simpa [Inst.s128, hS, hk, LaneVec.as128] using hv _ (List.getElem_mem hk)

end

theorem shaped_map_u32 {N : Nat} {vs : List (Vec 32)} (h : ∀ v ∈ vs, v.length = N) :
    ∀ w ∈ vs.map LaneVec.u32, w.Shaped 32 N := by
  intro w hw
  obtain ⟨v, hv, rfl⟩ := List.mem_map.1 hw
  exact ⟨rfl, h v hv⟩

theorem map_range_length {W K N : Nat} {s : Nat → Vec W} (h : ∀ k < K, (s k).length = N) :
    ∀ v ∈ (List.range K).map s, v.length = N := by
  simpa using h

/-! ## The families' vector steps keep the lane count (40_lane_vector.md R145) -/

section
variable {W N : Nat}

theorem xorshift32_length (x : Vec 32) : (xorshift32 x).length = x.length := by
  simp [xorshift32, vxor_length, vshl_length, vshr_length]

theorem xorshift128_length {x w : Vec 32} (hx : x.length = N) (hw : w.length = N) : (xorshift128 x w).length = N := by
  simp [xorshift128, vxor_length, vshl_length, vshr_length, hx, hw]

theorem xorshift128plusLiteral_length {a b : Vec 64} (ha : a.length = N) (hb : b.length = N) :
    (xorshift128plusLiteral a b).length = N := by
  simp [xorshift128plusLiteral, vxor_length, vshl_length, vshr_length, ha, hb]

theorem xorshift128plusPublished_length {a b : Vec 64} (ha : a.length = N) (hb : b.length = N) :
    (xorshift128plusPublished a b).length = N := by
  simp [xorshift128plusPublished, vxor_length, vshl_length, vshr_length, ha, hb]

theorem xoroshiro128_length {a b : Vec 64} (ha : a.length = N) (hb : b.length = N) :
    (xoroshiro128 a b).1.length = N ∧ (xoroshiro128 a b).2.length = N := by
  simp [xoroshiro128, vxor_length, vshl_length, vrotl_length, ha, hb]

theorem lcgAdvance_length {m : BitVec W} {old inc : Vec W} (ho : old.length = N) (hi : inc.length = N) :
    (lcgAdvance m old inc).length = N := by
  simp [lcgAdvance, vmulc, vadd_length, vmul_length, vsplat_length, ho, hi]

theorem four_lengths {s : Nat → Vec W} (l : ∀ {k}, k < 4 → (s k).length = N) :
    (s 0).length = N ∧ (s 1).length = N ∧ (s 2).length = N ∧ (s 3).length = N :=
  ⟨l (by decide), l (by decide), l (by decide), l (by decide)⟩

variable {a b c d : Vec W}

theorem xoshiro4_length {A B : Nat} (hA : A < W) (h : a.length = N ∧ b.length = N ∧ c.length = N ∧ d.length = N) :
    let r := xoshiro4 A B hA a b c d
    r.1.length = N ∧ r.2.1.length = N ∧ r.2.2.1.length = N ∧ r.2.2.2.length = N := by
  simp [xoshiro4, vxor_length, vshl_length, vrotl_length, h]

theorem jsf_length {X Z : Nat} (h : a.length = N ∧ b.length = N ∧ c.length = N ∧ d.length = N) :
    let r := jsf X Z a b c d
    r.1.length = N ∧ r.2.1.length = N ∧ r.2.2.1.length = N ∧ r.2.2.2.length = N := by
  simp [jsf, vadd_length, vsub_length, vxor_length, vrotl_length, h]

theorem sfc_length {rot sr sl : Nat} (hr : sr < W) (hl : sl < W)
    (h : a.length = N ∧ b.length = N ∧ c.length = N ∧ d.length = N) :
    let r := sfc rot sr sl hr hl a b c d
    r.1.length = N ∧ r.2.1.length = N ∧ r.2.2.1.length = N ∧ r.2.2.2.length = N := by
  simp [sfc, sfcOut, vaddc, vadd_length, vxor_length, vshl_length, vshr_length, vrotl_length, vsplat_length, h]

theorem lfsrWord_length (r : LfsrRow W) (w : Vec W) : (lfsrWord r w).length = w.length := by
  simp [lfsrWord, vandc, vxor_length, vand_length, vshl_length, vshr_length, vsplat_length]

theorem lfsrWords_lanes (tab : List (LfsrRow W)) {ws : List (Vec W)} (h : ∀ w ∈ ws, w.length = N) :
    ∀ v ∈ lfsrWords tab ws, v.length = N := by
  intro v hv
  obtain ⟨k, hk, rfl⟩ := List.mem_iff_getElem.1 hv
  simp only [lfsrWords, List.getElem_zipWith, lfsrWord_length]
  exact h _ (List.getElem_mem _)

theorem lfsrWords_range_length {K : Nat} (tab : Vector (LfsrRow W) K) (s : Nat → Vec W) :
    (lfsrWords tab.toList ((List.range K).map s)).length = K := by
  simp [lfsrWords]

/-- MWC has a factor for each of its at most eight lanes (30_encoding.md R95 (d)). -/
theorem mwcNext_length {factors : List (BitVec 32)} {x : Vec 64} (h : x.length ≤ factors.length) :
    (mwcNext factors x).length = x.length := by
  simpa [mwcNext, vadd_length, vwmul32_length, vzext_length, vshr_length] using h

theorem xsm_words_length (K : Nat) (ws : List (Vec W)) : (xsm K ws).1.length = K := by simp [xsm]

theorem xsm_words_lanes {K : Nat} {s : Nat → Vec W} (hK : 0 < K) (hs : (s 0).length = N) :
    ∀ v ∈ (xsm K ((List.range K).map s)).1, v.length = N := by
  obtain ⟨K, rfl⟩ := Nat.exists_eq_succ_of_ne_zero hK.ne'
  simp [xsm, List.range_succ_eq_map, hs]

theorem xoshiro8_wordsOf {s : List (Vec 64)} (hs : WordsOf 8 N s) : WordsOf 8 N (xoshiro8 s) := by
  obtain ⟨hK, hN⟩ := hs
  match s, hK with
  | [s0, s1, s2, s3, s4, s5, s6, s7], _ =>
    simp only [List.mem_cons, List.not_mem_nil, or_false, forall_eq_or_imp, forall_eq] at hN
    simp [WordsOf, xoshiro8, vxor_length, vrotl_length, vshl_length, hN]

end

/-! ## The families' steps keep the shape (10_state.md R22, 47_control.md R364) -/

theorem mwc_lanes_le {n : Lanes} (h : Fam.mwc.admits n = true) : n.count ≤ 8 := by
  cases n <;> revert h <;> decide

theorem xsmK_pos (p : Params) : 0 < p.xsmK := Nat.add_pos_left (by decide) _

theorem shaped_u16 {N : Nat} (v : Vec 16) (h : v.length = N) : (LaneVec.u16 v).Shaped 16 N := ⟨rfl, h⟩
theorem shaped_u32 {N : Nat} (v : Vec 32) (h : v.length = N) : (LaneVec.u32 v).Shaped 32 N := ⟨rfl, h⟩
theorem shaped_u64 {N : Nat} (v : Vec 64) (h : v.length = N) : (LaneVec.u64 v).Shaped 64 N := ⟨rfl, h⟩
theorem shaped_u128 {N : Nat} (v : Vec 128) (h : v.length = N) : (LaneVec.u128 v).Shaped 128 N := ⟨rfl, h⟩

section
variable {W N : Nat} {mk : Vec W → LaneVec} (hmk : ∀ v : Vec W, v.length = N → (mk v).Shaped W N)
include hmk

theorem shaped_one {a : Vec W} (ha : a.length = N) : ∀ w ∈ [mk a], w.Shaped W N := by
  simp [hmk, ha]

theorem shaped_two {a b : Vec W} (h : a.length = N ∧ b.length = N) : ∀ w ∈ [mk a, mk b], w.Shaped W N := by
  simp [hmk, h]

theorem shaped_four {a b c d : Vec W} (h : a.length = N ∧ b.length = N ∧ c.length = N ∧ d.length = N) :
    ∀ w ∈ [mk a, mk b, mk c, mk d], w.Shaped W N := by
  simp [hmk, h]

end

/-- A family's step leaves registers of the family's shape. -/
theorem stepOf_shaped {p : Params} {f : Fam} {n : Lanes} {i : Inst} (hn : f.admits n = true) (h : Shaped p f n i.S) :
    Shaped p f n (stepOf p f i).1.S := by
  obtain ⟨hK, hs⟩ := h
  cases f
  case xorshift32 =>
    have l {k} (hk : k < 1) : (i.s32 k).length = n.count := Inst.s32_length hK hs hk
    exact ⟨rfl, shaped_one shaped_u32 ((xorshift32_length _).trans (l (by decide)))⟩
  case xorshift128 =>
    have l {k} (hk : k < 4) : (i.s32 k).length = n.count := Inst.s32_length hK hs hk
    exact ⟨rfl, shaped_four shaped_u32 ⟨l (by decide), l (by decide), l (by decide),
      xorshift128_length (l (by decide)) (l (by decide))⟩⟩
  case xorshift128plus =>
    have l {k} (hk : k < 2) : (i.s64 k).length = n.count := Inst.s64_length hK hs hk
    refine ⟨rfl, shaped_two shaped_u64 ⟨l (by decide), ?_⟩⟩
    split
    · exact xorshift128plusPublished_length (l (by decide)) (l (by decide))
    · exact xorshift128plusLiteral_length (l (by decide)) (l (by decide))
  case xoroshiro128ss =>
    have l {k} (hk : k < 2) : (i.s64 k).length = n.count := Inst.s64_length hK hs hk
    exact ⟨rfl, shaped_two shaped_u64 (xoroshiro128_length (l (by decide)) (l (by decide)))⟩
  case xoshiro128ss =>
    have l {k} (hk : k < 4) : (i.s32 k).length = n.count := Inst.s32_length hK hs hk
    exact ⟨rfl, shaped_four shaped_u32 (xoshiro4_length _ (four_lengths l))⟩
  case xoshiro256ss =>
    have l {k} (hk : k < 4) : (i.s64 k).length = n.count := Inst.s64_length hK hs hk
    exact ⟨rfl, shaped_four shaped_u64 (xoshiro4_length _ (four_lengths l))⟩
  case xoshiro512ss =>
    have l {k} (hk : k < 8) : (i.s64 k).length = n.count := Inst.s64_length hK hs hk
    exact shaped_map_u64 (xoshiro8_wordsOf ⟨by simp, map_range_length fun _ => l⟩)
  case pcg32 | pcg32Xsh | pcg32Xsl | lcg32 =>
    have l {k} (hk : k < 2) : (i.s64 k).length = n.count := Inst.s64_length hK hs hk
    exact ⟨rfl, shaped_two shaped_u64 ⟨lcgAdvance_length (l (by decide)) (l (by decide)), l (by decide)⟩⟩
  case lcg16 =>
    have l {k} (hk : k < 2) : (i.s32 k).length = n.count := Inst.s32_length hK hs hk
    exact ⟨rfl, shaped_two shaped_u32 ⟨lcgAdvance_length (l (by decide)) (l (by decide)), l (by decide)⟩⟩
  case jsf32 =>
    have l {k} (hk : k < 4) : (i.s32 k).length = n.count := Inst.s32_length hK hs hk
    exact ⟨rfl, shaped_four shaped_u32 (jsf_length (four_lengths l))⟩
  case jsf64 =>
    have l {k} (hk : k < 4) : (i.s64 k).length = n.count := Inst.s64_length hK hs hk
    exact ⟨rfl, shaped_four shaped_u64 (jsf_length (four_lengths l))⟩
  case lfsr113 =>
    have l {k} (hk : k < 4) : (i.s32 k).length = n.count := Inst.s32_length hK hs hk
    refine ⟨?_, shaped_map_u32 (lfsrWords_lanes _ (map_range_length fun _ => l))⟩
    exact (List.length_map _).trans (lfsrWords_range_length _ i.s32)
  case lfsr258 =>
    have l {k} (hk : k < 5) : (i.s64 k).length = n.count := Inst.s64_length hK hs hk
    exact shaped_map_u64 ⟨lfsrWords_range_length _ i.s64, lfsrWords_lanes _ (map_range_length fun _ => l)⟩
  case mwc =>
    have l {k} (hk : k < 1) : (i.s64 k).length = n.count := Inst.s64_length hK hs hk
    have l0 := l Nat.one_pos
    have hle : (i.s64 0).length ≤ p.mwcFactor.toList.length := by simpa [l0] using mwc_lanes_le hn
    exact ⟨rfl, shaped_one shaped_u64 ((mwcNext_length hle).trans l0)⟩
  case sfc64 =>
    have l {k} (hk : k < 4) : (i.s64 k).length = n.count := Inst.s64_length hK hs hk
    exact ⟨rfl, shaped_four shaped_u64 (sfc_length _ _ (four_lengths l))⟩
  case sfc32 =>
    have l {k} (hk : k < 4) : (i.s32 k).length = n.count := Inst.s32_length hK hs hk
    exact ⟨rfl, shaped_four shaped_u32 (sfc_length _ _ (four_lengths l))⟩
  case sfc16 =>
    have l {k} (hk : k < 4) : (i.s16 k).length = n.count := Inst.s16_length hK hs hk
    exact ⟨rfl, shaped_four shaped_u16 (sfc_length _ _ (four_lengths l))⟩
  case xsm32 =>
    have l {k} (hk : k < p.xsmK) : (i.s32 k).length = n.count := Inst.s32_length hK hs hk
    have lanes := xsm_words_lanes (xsmK_pos p) (l (xsmK_pos p))
    exact ⟨(List.length_map _).trans (xsm_words_length _ _), shaped_map_u32 lanes⟩
  case xsm64 =>
    have l {k} (hk : k < p.xsmK) : (i.s64 k).length = n.count := Inst.s64_length hK hs hk
    exact shaped_map_u64 ⟨xsm_words_length _ _, xsm_words_lanes (xsmK_pos p) (l (xsmK_pos p))⟩
  case chacha4 | chacha4f =>
    refine ⟨by simp [stepOf, stepChacha4, stepChacha4f, stepChacha, Inst.chachaWords, famWords], fun w hw => ?_⟩
    obtain ⟨x, -, rfl⟩ := List.mem_map.1 hw
    exact ⟨rfl, rfl⟩
  case ars5 | ars7 =>
    have l {k} (hk : k < 2) : (i.s128 k).length = 1 := Inst.s128_length hK hs hk
    exact ⟨rfl, shaped_two shaped_u128 ⟨(List.length_map _).trans (l (by decide)), l (by decide)⟩⟩
  case aesrand =>
    have l {k} (hk : k < 1) : (i.s128 k).length = 1 := Inst.s128_length hK hs hk
    cases hb : i.bufv with
    | true => simpa [stepOf, stepAesrand, hb] using ⟨hK, hs⟩
    | false =>
      simp only [stepOf, stepAesrand, hb]
      exact ⟨rfl, shaped_one shaped_u128 ((List.length_map _).trans (l (by decide)))⟩
  case sselcg =>
    have l {k} (hk : k < 1) : (i.s32 k).length = 4 := Inst.s32_length hK hs hk
    exact ⟨rfl, shaped_one shaped_u32 (by simp [vadd_length, vmul_length, l (k := 0), shapeLanes])⟩

/-! ## What a family's step keeps beyond the shape (42_pcg_lcg.md R200, 44_chacha_aes_sse.md R262) -/

/-- ChaCha's registers are its sixteen words, a lane each (44_chacha_aes_sse.md R260). -/
theorem oneLane32_chachaWords {i : Inst} (hK : i.S.length = 16) (hs : ∀ w ∈ i.S, w.Shaped 32 1) :
    oneLane32 i.chachaWords = i.S := by
  obtain ⟨vs, hS, hv⟩ := shaped32 hs
  have hvs : vs.length = 16 := by simpa [hS] using hK
  have word (k : Nat) (hk : k < vs.length) : [(i.s32 k).headD 0] = vs[k] := by
    obtain ⟨x, hx⟩ := List.length_eq_one_iff.1 (hv _ (List.getElem_mem hk))
    simp [Inst.s32, hS, hk, LaneVec.as32, hx]
  rw [hS]
  apply List.ext_getElem
  · simp [oneLane32, Inst.chachaWords, hvs]
  · intro k _ hk
    simpa [oneLane32, Inst.chachaWords] using word k (by simpa using hk)

/-- The counter's words, 12 and 13, are the only ones a ChaCha step changes (44_chacha_aes_sse.md R262). -/
theorem stepChacha_kept (p : Params) (r : RotTuple) {i : Inst} (hK : i.S.length = 16) (hs : ∀ w ∈ i.S, w.Shaped 32 1) :
    (stepChacha p r i).1.S.take 4 = i.S.take 4 ∧ (stepChacha p r i).1.S.drop 14 = i.S.drop 14 := by
  rw [← oneLane32_chachaWords hK hs]
  simp [stepChacha, oneLane32, List.take_set_of_le, List.drop_set_of_lt]

/-- `inc`, which is S[1] and which no step changes, is odd in every lane (42_pcg_lcg.md R200). -/
theorem oddInc_s64 {N : Nat} {i : Inst} (hs : i.S.length = 2 ∧ ∀ w ∈ i.S, w.Shaped 64 N) (h : OddInc i.S) :
    ∀ x ∈ i.s64 1, x.getLsbD 0 = true := by
  obtain ⟨ls, -, hS⟩ := shaped_pair64.1 hs
  have hinc : i.s64 1 = ls.map (·.b) := by simp [Inst.s64, hS, pair64, LaneVec.as64]
  rw [hS] at h
  rwa [hinc]

@[inherit_doc oddInc_s64]
theorem oddInc_s32 {N : Nat} {i : Inst} (hs : i.S.length = 2 ∧ ∀ w ∈ i.S, w.Shaped 32 N) (h : OddInc i.S) :
    ∀ x ∈ i.s32 1, x.getLsbD 0 = true := by
  obtain ⟨ls, -, hS⟩ := shaped_pair32.1 hs
  have hinc : i.s32 1 = ls.map (·.b) := by simp [Inst.s32, hS, pair32, LaneVec.as32]
  rw [hS] at h
  rwa [hinc]

/-- A family's step keeps `inc` odd and ChaCha's constant words. -/
theorem stepOf_kept {p : Params} {f : Fam} {n : Lanes} {i : Inst} (h : Shaped p f n i.S) (hk : Kept f i.S) :
    Kept f (stepOf p f i).1.S := by
  cases f
  case pcg32 | pcg32Xsh | pcg32Xsl | lcg32 => exact oddInc_s64 h hk
  case lcg16 => exact oddInc_s32 h hk
  case chacha4 | chacha4f =>
    obtain ⟨hK, hs⟩ := h
    obtain ⟨htake, hdrop⟩ := stepChacha_kept p _ hK hs
    exact ⟨htake.trans hk.1, hdrop.trans hk.2⟩
  all_goals exact trivial

/-! ## The instance while VALID = 1 (10_state.md R25, R28) -/

/-- What the registers are while CFG names family f at lane count n. -/
structure InstOk (p : Params) (f : Fam) (n : Lanes) (i : Inst) : Prop where
  shape : Shaped p f n i.S
  kept : Kept f i.S
  buf : f = .aesrand → i.bufv = true → i.buf.length = 1
  bufv : i.bufv = true → f = .aesrand

/-- The registers a seeding leaves (45_seeding.md R300, R336). -/
theorem InstOk.seeded {p : Params} {f : Fam} {n : Lanes} {S : List LaneVec} (hs : Shaped p f n S) (hk : Kept f S) :
    InstOk p f n ⟨S, [], false⟩ := ⟨hs, hk, nofun, nofun⟩

/-- No family but AESRAND has a step that changes BUFV (10_state.md R28). -/
theorem stepOf_bufv (p : Params) {f : Fam} (hf : f ≠ .aesrand) (i : Inst) : (stepOf p f i).1.bufv = i.bufv := by
  cases f <;> first | rfl | contradiction

/-- The half that AESRAND's step buffers has the counter's one lane (44_chacha_aes_sse.md R270). -/
theorem stepAesrand_buf_length (p : Params) {i : Inst} (hc : (i.s128 0).length = 1)
    (h : (stepAesrand p i).1.bufv = true) : (stepAesrand p i).1.buf.length = 1 := by
  cases hb : i.bufv with
  | true => simp [stepAesrand, hb] at h
  | false => simp [stepAesrand, hb, hc]

/-- A family's step keeps its instance (47_control.md R364). -/
theorem InstOk.stepOf {p : Params} {f : Fam} {n : Lanes} {i : Inst} (hn : f.admits n = true) (h : InstOk p f n i) :
    InstOk p f n (stepOf p f i).1 where
  shape := stepOf_shaped hn h.shape
  kept := stepOf_kept h.shape h.kept
  buf := by
    rintro rfl
    exact stepAesrand_buf_length p (Inst.s128_length h.shape.1 h.shape.2 Nat.one_pos)
  bufv hb := by
    by_contra hf
    exact hf (h.bufv (stepOf_bufv p hf i ▸ hb))

/-- What a step keeps, FILL's loop keeps (46_byte_adapter.md R350). -/
theorem fillLoop_keeps {step : StepFn} {P : Inst → Prop} (hstep : ∀ i, P i → P (step i).1) (fuel rem : Nat) {i : Inst}
    (h : P i) : P (fillLoop step fuel rem i).1 := by
  induction fuel generalizing rem i with
  | zero => exact h
  | succ fuel ih =>
    by_cases hr : rem = 0
    · subst hr
      rwa [fillLoop_zero]
    · rw [fillLoop_succ step fuel hr]
      exact ih _ (hstep i h)

/-! ## CFG names its family (30_encoding.md R93, 10_state.md R21) -/

theorem Fam.ofCode_code (f : Fam) : Fam.ofCode f.code = some f := by cases f <;> rfl

theorem Fam.code_inj {f g : Fam} : f.code = g.code ↔ f = g := by
  refine ⟨fun h => ?_, congrArg Fam.code⟩
  have := congrArg Fam.ofCode h
  rwa [Fam.ofCode_code, Fam.ofCode_code, Option.some.injEq] at this

theorem cfgOf_fam {f g : Fam} {n m : Lanes} (h : cfgOf f n = cfgOf g m) : f = g :=
  Fam.code_inj.1 (congrArg Cfg.fam h)

/-! ## The invariant of a machine that no seeding holds -/

/-- The invariant's part on CFG, VALID and the instance (10_state.md R21, R22, R25, R28). -/
def InstancePart (s : State) : Prop :=
  (s.valid = true ∧ ∃ f n, f.admits n = true ∧ s.cfg = cfgOf f n ∧ InstOk s.par f n s.inst) ∨
  (s.valid = false ∧ s.cfg = ⟨0, 0⟩ ∧ s.inst.bufv = false)

/-- The invariant's part on the error registers (10_state.md R33, 60_exceptions.md R383). -/
def ErrorPart (s : State) : Prop := (s.err = .none → s.errcmd = 0) ∧ (s.err ≠ .entropy → s.entcode = 0)

/-- The invariant, of a machine that no seeding holds. -/
structure Running (s : State) : Prop where
  fifo : s.fifo.length ≤ 2048
  inst : InstancePart s
  errors : ErrorPart s
  free : s.pend = none

theorem instancePart_iff (s : State) :
    InstancePart s ↔ (s.valid = true → InstanceOk s) ∧ (s.valid = false → s.cfg = ⟨0, 0⟩) ∧
      (s.inst.bufv = true → s.valid = true ∧ s.cfg.fam = Fam.aesrand.code) := by
  constructor
  · rintro (⟨hv, f, n, hn, hc, hi⟩ | ⟨hv, hc, hb⟩)
    · refine ⟨fun _ => ⟨f, n, hn, hc, ⟨hi.shape, hi.buf⟩, hi.kept⟩, fun h => absurd h (by simp [hv]),
        fun hb => ?_⟩
      obtain rfl := hi.bufv hb
      exact ⟨hv, congrArg Cfg.fam hc⟩
    · exact ⟨fun h => absurd h (by simp [hv]), fun _ => hc, fun h => absurd h (by simp [hb])⟩
  · rintro ⟨hvalid, hinvalid, hbufv⟩
    cases hv : s.valid with
    | true =>
      obtain ⟨f, n, hn, hc, ⟨hs, hb⟩, hk⟩ := hvalid hv
      refine .inl ⟨hv, f, n, hn, hc, hs, hk, hb, fun h => ?_⟩
      obtain ⟨-, hfam⟩ := hbufv h
      rw [hc] at hfam
      exact Fam.code_inj.1 hfam
    | false =>
      refine .inr ⟨hv, hinvalid hv, Bool.eq_false_iff.2 fun h => ?_⟩
      obtain ⟨ht, -⟩ := hbufv h
      simp [hv] at ht

theorem running_iff (s : State) : Running s ↔ Inv s ∧ s.pend = none := by
  constructor
  · rintro ⟨hf, hi, ⟨he, hn⟩, hp⟩
    obtain ⟨h1, h2, h3⟩ := (instancePart_iff s).1 hi
    exact ⟨⟨hf, h1, h2, h3, he, hn, by simp [hp]⟩, hp⟩
  · rintro ⟨⟨hf, h1, h2, h3, he, hn, -⟩, hp⟩
    exact ⟨hf, (instancePart_iff s).2 ⟨h1, h2, h3⟩, ⟨he, hn⟩, hp⟩

theorem Running.inv {s : State} (h : Running s) : Inv s := ((running_iff s).1 h).1

/-! ## The operations over the state keep it -/

section
variable {s : State}

theorem Running.host (h : Running s) (rest : List HostAction) : Running { s with host := rest } :=
  ⟨h.fifo, h.inst, h.errors, h.free⟩

theorem Running.popFifo (h : Running s) : Running { s with fifo := [] } :=
  ⟨Nat.zero_le _, h.inst, h.errors, h.free⟩

theorem Running.raise (h : Running s) {e : ErrCode} (he : e ≠ .none) (cmd : Word) (info : BitVec 32) :
    Running (s.raise e cmd info) :=
  ⟨h.fifo, h.inst, ⟨fun hn => absurd hn he, fun hn => if_neg hn⟩, h.free⟩

theorem Running.clearError (h : Running s) : Running s.clearError :=
  ⟨h.fifo, h.inst, ⟨fun _ => rfl, fun _ => rfl⟩, h.free⟩

theorem Running.softReset (h : Running s) : Running s.softReset :=
  ⟨Nat.zero_le _, .inr ⟨rfl, rfl, rfl⟩, ⟨fun _ => rfl, fun _ => rfl⟩, h.free⟩

theorem Running.hardReset (h : Running s) : Running s.hardReset :=
  ⟨Nat.zero_le _, .inr ⟨rfl, rfl, rfl⟩, ⟨fun _ => rfl, fun _ => rfl⟩, h.free⟩

theorem Running.dropInstance (h : Running s) : Running s.dropInstance :=
  ⟨h.fifo, .inr ⟨rfl, rfl, rfl⟩, h.errors, h.free⟩

theorem Running.install (h : Running s) {f : Fam} {n : Lanes} {S : List LaneVec} (hn : f.admits n = true)
    (hs : Shaped s.par f n S) (hk : Kept f S) : Running (s.install (cfgOf f n) S) :=
  ⟨h.fifo, .inl ⟨rfl, f, n, hn, rfl, .seeded hs hk⟩, h.errors, h.free⟩

theorem Running.drawn (h : Running s) {t : State} (hd : DrawnFrom s t) : Running t := by
  rw [hd]
  exact ⟨h.fifo, h.inst, h.errors, h.free⟩

/-- An instance replaced by one that its family's step may leave (47_control.md R364). -/
theorem Running.stepped (h : Running s) {f : Fam} {n : Lanes} (hv : s.valid = true) (hc : s.cfg = cfgOf f n)
    {move : Inst → Inst} (hmove : ∀ m i, f.admits m = true → InstOk s.par f m i → InstOk s.par f m (move i))
    (out : List Byte) : Running { s with inst := move s.inst, out := out } := by
  refine ⟨h.fifo, .inl ⟨hv, ?_⟩, h.errors, h.free⟩
  rcases h.inst with ⟨-, g, m, hm, hg, hi⟩ | ⟨hf, -⟩
  · obtain rfl : g = f := cfgOf_fam (hg.symm.trans hc)
    exact ⟨g, m, hm, hg, hmove m _ hm hi⟩
  · simp [hv] at hf

theorem Running.hostWrite (h : Running s) (off : Nat) (v : Word) : Running (s.hostWrite off v) := by
  unfold State.hostWrite
  split
  · exact ⟨h.fifo, h.inst, h.errors, h.free⟩
  · unfold State.seedPush fifoDepth
    split
    · next hroom => exact ⟨by simpa using hroom, h.inst, h.errors, h.free⟩
    · exact h
  · exact h

theorem Running.hostRead (h : Running s) (off : Nat) : Running (s.hostRead off) :=
  ⟨h.fifo, h.inst, h.errors, h.free⟩

end

/-! ## The commands keep it -/

/-- The five operations that name a family. -/
def FamilyCommand (i : Instr) (f : Fam) (n : Lanes) : Prop :=
  i = Instr.seedRng f n ∨ i = Instr.seedBlocks f n ∨ i = Instr.seedFixed f n ∨ i = Instr.gen f n ∨
    i = Instr.fill f n

theorem FamilyCommand.wf {i : Instr} {f : Fam} {n : Lanes} (hi : FamilyCommand i f n) : i.wf = f.admits n := by
  rcases hi with rfl | rfl | rfl | rfl | rfl
  · exact wf_seedRng f n
  · exact wf_seedBlocks f n
  · exact wf_seedFixed f n
  · exact wf_gen f n
  · exact wf_fill f n

/-- Each of the five runs in the wrapper that asks for a recorded error and for the lane count first
(47_control.md R360). -/
theorem exec_eq_command {i : Instr} {f : Fam} {n : Lanes} (hi : FamilyCommand i f n) (s : State) :
    ∃ effect, exec i s = .next (s.command i effect) := by
  rcases hi with rfl | rfl | rfl | rfl | rfl
  · cases f <;> exact ⟨_, rfl⟩
  · cases f <;> exact ⟨_, rfl⟩
  · rw [exec_seedFixed]; exact ⟨_, rfl⟩
  · rw [exec_gen, State.genWith, State.withInstance]; exact ⟨_, rfl⟩
  · rw [exec_fill, State.fillWith, State.withInstance]; exact ⟨_, rfl⟩

/-- The words a seed image loads have what a family's step keeps (45_seeding.md R317, R332). -/
theorem SeedLoads.kept {p : Params} {f : Fam} {n : Lanes} {b : List Byte} {S : List LaneVec}
    (h : SeedLoads p f n b S) : Kept f S := by
  cases f
  case pcg32 | pcg32Xsh | pcg32Xsl | lcg32 =>
    obtain ⟨ls, -, -, rfl⟩ := h
    exact oddInc_fixed_pair64 ls
  case lcg16 =>
    obtain ⟨ls, -, -, rfl⟩ := h
    exact oddInc_fixed_pair32 ls
  case chacha4 | chacha4f =>
    obtain ⟨key, hkey, -, rfl⟩ := h
    match key, hkey with
    | [_, _, _, _, _, _, _, _], _ => exact ⟨rfl, rfl⟩
  all_goals exact trivial

/-- The words a family's seeding procedure loads from exactly SB bytes. -/
theorem seedLoads_of_length {p : Params} {f : Fam} {n : Lanes} {b : List Byte}
    (hb : b.length = (seedProcOf p f n).sb) : SeedLoads p f n b ((seedProcOf p f n).load b) :=
  (seedLoads_iff p f n b _).2 ⟨hb.trans (seedProcOf_sb p f n), rfl⟩

/-- The end of every SEED_RNG, and what the words are that it accepts (45_seeding.md R300). -/
theorem exec_seedRng_ends_kept (f : Fam) (n : Lanes) (s : State) (hf : f.admits n = true) (he : s.err = .none) :
    ∃ e : SeedEnd, exec (Instr.seedRng f n) s = .next (e.finish (Instr.seedRng f n) (cfgOf f n) id) ∧
      e.Ends s.dropInstance fun S => Shaped s.par f n S ∧ Kept f S := by
  by_cases hl : f = .lfsr113 ∨ f = .lfsr258
  · obtain ⟨e, hx, hends⟩ := exec_seedRng_ends f n s hf he
    refine ⟨e, hx, hends.mono fun S hS => ⟨hS.1, ?_⟩⟩
    rcases hl with rfl | rfl <;> exact trivial
  · obtain ⟨h1, h2⟩ := not_or.1 hl
    rw [exec_seedRng h1 h2, State.seedRngWith, State.command_ok he (by rw [wf_seedRng, hf])]
    refine ⟨_, rfl, (seedLoop_ends _ s).mono ?_⟩
    rintro _ ⟨b, hb, rfl, -⟩
    have hload := seedLoads_of_length hb
    exact ⟨hload.shaped, hload.kept⟩

/-- A seeding from the entropy source keeps the invariant, however it ends (45_seeding.md R300, R345, R346). -/
theorem inv_finish {s : State} {i : Instr} {f : Fam} {n : Lanes} {e : SeedEnd} {post : List LaneVec → List LaneVec}
    (h : Running s) (hn : f.admits n = true) (he : s.err = .none)
    (hi : i = Instr.seedRng f n ∨ (i = Instr.seedBlocks f n ∧ (f = .xoroshiro128ss ∨ f = .xoshiro256ss)))
    (hends : e.Ends s.dropInstance fun S => Shaped s.par f n (post S) ∧ Kept f (post S)) :
    Inv (e.finish i (cfgOf f n) post) := by
  have hrun := h.dropInstance.drawn hends.drawn
  obtain ⟨ent, draws, hd⟩ := hends.drawn.eq_update
  cases e with
  | done S u =>
    obtain ⟨hs, hk⟩ := hends.words S u rfl
    obtain rfl : u = _ := hd
    exact (hrun.install hn hs hk).inv
  | failed code u => exact (hrun.raise (by decide) _ _).inv
  | never u =>
    have hspent := hends.spent u rfl
    obtain ⟨hfifo, hvalid, hinvalid, hbufv, hcmd, hcode, -⟩ := hrun.inv
    have hwf : i.wf = true := by rcases hi with rfl | ⟨rfl, -⟩ <;> simpa using hn
    obtain rfl : u = _ := hd
    refine ⟨hfifo, hvalid, hinvalid, hbufv, hcmd, hcode, ?_⟩
    rintro _ ⟨⟩
    exact ⟨hwf, he, rfl, rfl, hspent, f, n, hi⟩

/-- A GEN or a FILL keeps the invariant: an error, or the instance stepped on (47_control.md R364, R365). -/
theorem running_withInstance {s : State} {i : Instr} {f : Fam} {n : Lanes} (h : Running s) {effect : State → State}
    (heffect : s.valid = true → s.cfg = cfgOf f n → Running (effect s)) :
    Running (s.withInstance i (cfgOf f n) effect) := by
  rcases s.withInstance_cases i (cfgOf f n) effect with
    ⟨-, hx⟩ | ⟨-, -, hx⟩ | ⟨-, -, -, hx⟩ | ⟨-, -, -, -, hx⟩ | ⟨-, -, hv, hc, hx⟩ <;> rw [hx]
  · exact h
  · exact h.raise (by decide) _ _
  · exact h.raise (by decide) _ _
  · exact h.raise (by decide) _ _
  · exact heffect hv hc

theorem running_genWith {s : State} {f : Fam} {n : Lanes} (h : Running s) (i : Instr) :
    Running (s.genWith i (cfgOf f n) (stepOf s.par f)) :=
  running_withInstance h fun hv hc => h.stepped (move := fun i => (stepOf s.par f i).1) hv hc
    (fun _ _ hm hi => hi.stepOf hm) _

theorem running_fillWith {s : State} {f : Fam} {n : Lanes} (h : Running s) (i : Instr) :
    Running (s.fillWith i (cfgOf f n) (stepOf s.par f)) :=
  running_withInstance h fun hv hc =>
    h.stepped (move := fun i => (fillLoop (stepOf s.par f) s.len.toNat s.len.toNat i).1) hv hc
      (fun _ _ hm hi => fillLoop_keeps (fun _ hj => hj.stepOf hm) _ _ hi) _

/-- SEED_FIXED keeps the invariant: the instance its bytes make, or an error (45_seeding.md R343). -/
theorem running_seedFixedWith {s : State} {i : Instr} {f : Fam} {n : Lanes} (h : Running s) (he : s.err = .none)
    (hw : i.wf = true) (hn : f.admits n = true) :
    Running (s.seedFixedWith i f (cfgOf f n) (seedProcOf s.par f n)) := by
  rcases State.seedFixedWith_cases he hw f (cfgOf f n) (seedProcOf s.par f n) with
    ⟨-, hx⟩ | ⟨-, -, hx⟩ | ⟨-, hb, -, hx⟩ <;> rw [hx]
  · exact h.popFifo.raise (by decide) _ _
  · exact h.popFifo.dropInstance.raise (by decide) _ _
  · have hload := seedLoads_of_length hb
    exact h.popFifo.dropInstance.install hn hload.shaped hload.kept

/-- A command of the five keeps the invariant when nothing stands in its way (47_control.md R360). -/
theorem inv_exec_unblocked {s t : State} {i : Instr} {f : Fam} {n : Lanes} (hi : FamilyCommand i f n) (h : Running s)
    (he : s.err = .none) (hn : f.admits n = true) (hx : exec i s = .next t) : Inv t := by
  rcases hi with rfl | rfl | rfl | rfl | rfl
  · obtain ⟨e, heq, hends⟩ := exec_seedRng_ends_kept f n s hn he
    obtain rfl := Host.Outcome.next.inj (heq.symm.trans hx)
    exact inv_finish h hn he (.inl rfl) hends
  · by_cases hf : f = .xoroshiro128ss ∨ f = .xoshiro256ss
    · obtain ⟨e, post, heq, hends⟩ := exec_seedBlocks_ends hf n s hn he
      obtain rfl := Host.Outcome.next.inj (heq.symm.trans hx)
      refine inv_finish h hn he (.inr ⟨rfl, hf⟩) (hends.mono fun S hS => ⟨hS, ?_⟩)
      rcases hf with rfl | rfl <;> exact trivial
    · obtain ⟨h1, h2⟩ := not_or.1 hf
      rw [exec_seedBlocks_unsupported h1 h2, State.seedBlocksUnsupported, State.command_ok he (by simpa using hn)] at hx
      obtain rfl := Host.Outcome.next.inj hx
      exact (h.raise (by decide) _ _).inv
  · rw [exec_seedFixed] at hx
    obtain rfl := Host.Outcome.next.inj hx
    exact (running_seedFixedWith h he (by simpa using hn) hn).inv
  · rw [exec_gen] at hx
    obtain rfl := Host.Outcome.next.inj hx
    exact (running_genWith h _).inv
  · rw [exec_fill] at hx
    obtain rfl := Host.Outcome.next.inj hx
    exact (running_fillWith h _).inv

/-- A command of the five keeps the invariant: blocked, refused as ill-formed, or run (47_control.md R360, R365). -/
theorem inv_exec_family {s t : State} {i : Instr} {f : Fam} {n : Lanes} (hi : FamilyCommand i f n) (h : Running s)
    (hx : exec i s = .next t) : Inv t := by
  obtain ⟨effect, heq⟩ := exec_eq_command hi s
  obtain rfl := Host.Outcome.next.inj (heq.symm.trans hx)
  rcases s.command_cases i effect with ⟨-, hc⟩ | ⟨he, hw, -⟩ | ⟨-, -, hc⟩
  · rw [hc]
    exact h.inv
  · exact inv_exec_unblocked hi h he (hi.wf ▸ hw) hx
  · rw [hc]
    exact (h.raise (by decide) _ _).inv

theorem inv_exec {s t : State} (i : Instr) (h : Running s) (hx : exec i s = .next t) : Inv t := by
  rcases Instr_cases i with rfl | rfl | rfl | ⟨f, n, hi⟩
  · obtain rfl := Host.Outcome.next.inj (show Host.Outcome.next s = .next t from hx)
    exact h.inv
  · obtain rfl := Host.Outcome.next.inj (show Host.Outcome.next s.clearError = .next t from hx)
    exact h.clearError.inv
  · obtain rfl := Host.Outcome.next.inj (show Host.Outcome.next s.softReset = .next t from hx)
    exact h.softReset.inv
  · exact inv_exec_family hi h hx

/-! ## The step keeps it -/

theorem inv_issue {s t : State} (w : Word) (h : Running s) (hx : issue w s = .next t) : Inv t := by
  rcases issue_cases w s with ⟨i, -, heq⟩ | ⟨-, -, heq⟩ | ⟨-, -, heq⟩ <;> rw [heq] at hx
  · exact inv_exec i h hx
  · obtain rfl := Host.Outcome.next.inj hx
    exact h.inv
  · obtain rfl := Host.Outcome.next.inj hx
    exact (h.raise (by decide) _ _).inv

/-- An access that answers a next state is the effect it guards (20_memory.md R71). -/
theorem access_eq_next {off bits : Nat} {effect : Result} {t : State} (hx : access off bits effect = .next t) :
    effect = .next t := by
  rcases access_cases off bits effect with ⟨-, heq⟩ | ⟨-, -, -, heq⟩ | ⟨-, -, -, heq⟩ <;> rw [heq] at hx
  · cases hx
  · cases hx
  · exact hx

theorem inv_act {s t : State} (a : HostAction) (h : Running s) (hx : act a s = .next t) : Inv t := by
  cases a with
  | write off bits v =>
    have hx := access_eq_next hx
    split at hx
    · exact inv_issue v h hx
    · obtain rfl := Host.Outcome.next.inj hx
      exact (h.hostWrite off v).inv
  | read off bits =>
    obtain rfl := Host.Outcome.next.inj (access_eq_next hx)
    exact (h.hostRead off).inv
  | reset =>
    obtain rfl := Host.Outcome.next.inj hx
    exact h.hardReset.inv

/-- Settles O50: a step that does anything is an action of the host on a machine that no seeding holds (`Running`). -/
theorem everyStepKeepsTheInvariant : Obligations.EveryStepKeepsTheInvariant := by
  intro s t h hx
  rcases step_cases s with ⟨-, heq⟩ | ⟨-, -, heq⟩ | ⟨a, rest, hp, -, heq⟩ <;> rw [heq] at hx
  · obtain rfl := Host.Outcome.next.inj hx
    exact h
  · obtain rfl := Host.Outcome.next.inj hx
    exact h
  · exact inv_act a (((running_iff s).2 ⟨h, hp⟩).host rest) hx

/-- Settles O51: after reset there is no instance, no error, no byte in the FIFO, and no seeding. -/
theorem resetMeetsTheInvariant : Obligations.ResetMeetsTheInvariant := by
  have h : Running State.reset := ⟨Nat.zero_le _, .inr ⟨rfl, rfl, rfl⟩, ⟨fun _ => rfl, fun _ => rfl⟩, rfl⟩
  exact h.inv

end Sys2Proof.Machine
end

section
/-! O1, O12 and O14: what the host reads (10_state.md R30, R34, R35, R37). A register that is a disjunction of shifted
fields is the sum of their weights, and a word of the STATE window is the little-endian word of its four bytes. -/

namespace Sys2Proof.Machine

/-! ## Fields and bytes of a word as integers -/

/-- A field above the bits of `x`: the disjunction is the sum (10_state.md R30). -/
theorem toNat_or_shiftLeft {W k : Nat} {x y : BitVec W} (hx : x.toNat < 2 ^ k) (hy : 2 ^ k * y.toNat < 2 ^ W) :
    (x ||| y <<< k).toNat = x.toNat + 2 ^ k * y.toNat := by
  rw [BitVec.toNat_or, BitVec.toNat_shiftLeft, Nat.shiftLeft_eq, Nat.mul_comm y.toNat, Nat.mod_eq_of_lt hy, Nat.or_comm,
    ← Nat.two_pow_add_eq_or_of_lt hx, Nat.add_comm]

/-- The five fields of STATUS, as words, placed at their bits (10_state.md R30). -/
theorem statusFields_toNat {v b e f l : Word} (hv : v.toNat < 2) (hb : b.toNat < 2) (he : e.toNat < 2)
    (hf : f.toNat < 256) (hl : l.toNat < 8) :
    (v ||| b <<< 1 ||| e <<< 2 ||| f <<< 8 ||| l <<< 16).toNat =
      v.toNat + 2 * b.toNat + 4 * e.toNat + 256 * f.toNat + 65536 * l.toNat := by
  have h1 := toNat_or_shiftLeft (k := 1) (x := v) (y := b) (by omega) (by omega)
  have h2 := toNat_or_shiftLeft (k := 2) (x := v ||| b <<< 1) (y := e) (by omega) (by omega)
  have h3 := toNat_or_shiftLeft (k := 8) (x := v ||| b <<< 1 ||| e <<< 2) (y := f) (by omega) (by omega)
  have h4 := toNat_or_shiftLeft (k := 16) (x := v ||| b <<< 1 ||| e <<< 2 ||| f <<< 8) (y := l) (by omega) (by omega)
  omega

/-- STATUS as the integer of its fields (10_state.md R30). -/
theorem State.status_toNat (s : State) :
    s.status.toNat = s.valid.toNat + 2 * s.shownBufv.toNat + 4 * s.errf.toNat + 256 * s.cfg.fam.toNat
      + 65536 * s.cfg.ln.toNat := by
  have bit (x : Bool) : ((BitVec.ofBool x).setWidth 32).toNat = x.toNat := by cases x <;> rfl
  have fam : (s.cfg.fam.setWidth 32).toNat = s.cfg.fam.toNat := BitVec.toNat_setWidth_of_le (by decide)
  have ln : (s.cfg.ln.setWidth 32).toNat = s.cfg.ln.toNat := BitVec.toNat_setWidth_of_le (by decide)
  have h := statusFields_toNat (v := (BitVec.ofBool s.valid).setWidth 32)
    (b := (BitVec.ofBool s.shownBufv).setWidth 32) (e := (BitVec.ofBool s.errf).setWidth 32)
    (f := s.cfg.fam.setWidth 32) (l := s.cfg.ln.setWidth 32) (by rw [bit]; exact Bool.toNat_lt _)
    (by rw [bit]; exact Bool.toNat_lt _) (by rw [bit]; exact Bool.toNat_lt _) (by rw [fam]; exact BitVec.isLt _)
    (by rw [ln]; exact BitVec.isLt _)
  rwa [bit, bit, bit, fam, ln] at h

/-- BUFV shows for an AESRAND instance only (10_state.md R30). -/
theorem State.shownBufv_eq (s : State) :
    s.shownBufv = decide (s.valid ∧ s.cfg.fam = 0x1B ∧ s.inst.bufv) := by
  rw [Bool.eq_iff_iff, decide_eq_true_iff, State.shownBufv, Bool.and_eq_true, Bool.and_eq_true, decide_eq_true_iff]
  exact ⟨fun ⟨⟨hb, hf⟩, hv⟩ => ⟨hv, hf, hb⟩, fun ⟨hv, hf, hb⟩ => ⟨⟨hb, hf⟩, hv⟩⟩

/-- STATUS from the state's own fields (10_state.md R30, R27). -/
theorem State.status_eq_ofNat (s : State) :
    s.status = BitVec.ofNat 32
      ((if s.valid then 1 else 0) + (if s.valid ∧ s.cfg.fam = 0x1B ∧ s.inst.bufv then 2 else 0)
        + (if s.err = .none then 0 else 4) + 256 * s.cfg.fam.toNat + 65536 * s.cfg.ln.toNat) := by
  have valid : s.valid.toNat = if s.valid then 1 else 0 := by cases s.valid <;> rfl
  have bufv : 2 * s.shownBufv.toNat = if s.valid ∧ s.cfg.fam = 0x1B ∧ s.inst.bufv then 2 else 0 := by
    rw [State.shownBufv_eq]
    split
    · next h => rw [decide_eq_true h]; rfl
    · next h => rw [decide_eq_false h]; rfl
  have errf : 4 * s.errf.toNat = if s.err = .none then 0 else 4 := by
    unfold State.errf
    by_cases he : s.err = .none <;> simp [he]
  have hfam := s.cfg.fam.isLt
  have hln := s.cfg.ln.isLt
  have hvalid := s.valid.toNat_lt
  have hbufv := s.shownBufv.toNat_lt
  have herrf := s.errf.toNat_lt
  apply BitVec.eq_of_toNat_eq
  rw [State.status_toNat, BitVec.toNat_ofNat, ← valid, ← bufv, ← errf]
  omega

/-- A byte below the bytes of a word (20_memory.md R63). -/
theorem leWord_cons_toNat {W : Nat} (b : Byte) {bs : List Byte} (hW : 8 ≤ W)
    (h : 2 ^ 8 * (leWord W bs).toNat < 2 ^ W) :
    (leWord W (b :: bs)).toNat = b.toNat + 2 ^ 8 * (leWord W bs).toNat := by
  have hb : (b.setWidth W).toNat = b.toNat := BitVec.toNat_setWidth_of_le hW
  have hlt := b.isLt
  rw [show leWord W (b :: bs) = (leWord W bs <<< 8) ||| b.setWidth W from rfl, BitVec.or_comm,
    toNat_or_shiftLeft (by rwa [hb]) h, hb]

/-- A word is the integer of its four bytes (20_memory.md R63). -/
theorem leWord_four_toNat (a b c d : Byte) :
    (leWord 32 [a, b, c, d]).toNat = a.toNat + 2 ^ 8 * b.toNat + 2 ^ 16 * c.toNat + 2 ^ 24 * d.toNat := by
  have h0 : (leWord 32 []).toNat = 0 := rfl
  have h1 := leWord_cons_toNat (W := 32) d (bs := []) (by decide) (by omega)
  have h2 := leWord_cons_toNat (W := 32) c (bs := [d]) (by decide) (by omega)
  have h3 := leWord_cons_toNat (W := 32) b (bs := [c, d]) (by decide) (by omega)
  have h4 := leWord_cons_toNat (W := 32) a (bs := [b, c, d]) (by decide) (by omega)
  omega

/-- Byte j of a word (20_memory.md R63). -/
theorem leWord_four_byte (bytes : List Byte) (h : bytes.length = 4) {j : Nat} (hj : j < 4) :
    (leWord 32 bytes).extractLsb' (8 * j) 8 = bytes.getD j 0 := by
  have hbyte := laneImage_getElem? (leWord 32 bytes) (i := j) hj
  rw [laneImage_leWord bytes h] at hbyte
  rw [List.getD_eq_getElem?_getD, hbyte, Option.getD_some]

/-! ## The step of a register read -/

theorem step_read {s : State} {off : Nat} {rest : List HostAction} (h : Performs s (.read off 32) rest)
    (ha : off % 4 = 0) (hb : off < 0x800) : step s = .next (({ s with host := rest } : State).hostRead off) := by
  obtain ⟨hp, hh⟩ := h
  rcases step_cases s with ⟨hp', -⟩ | ⟨-, hh', -⟩ | ⟨a, rest', -, hh', heq⟩
  · simp [hp] at hp'
  · simp [hh] at hh'
  · obtain ⟨rfl, rfl⟩ : HostAction.read off 32 = a ∧ rest = rest' := by simpa [hh] using hh'
    rw [heq]
    simp [act, access, ha, hb]

/-- The offsets below the STATE window at which a read gives a field (10_state.md R30). -/
def readableOffsets : List Nat := [0x004, 0x008, 0x00C, 0x010, 0x018, 0x01C]

/-- CMD, SEEDIN and the reserved offsets read 0 (10_state.md R30). -/
theorem State.readReg_eq_zero (s : State) {off : Nat} (hlt : off < 0x400) (h : off ∉ readableOffsets) :
    s.readReg off = 0 := by
  unfold State.readReg
  split
  case h_7 => exact if_neg (by omega)
  all_goals exact absurd (by decide) h

/-- Settles O12, register by register. -/
theorem registerReadsReturnTheirFields : Obligations.RegisterReadsReturnTheirFields := by
  intro s off rest hp ha hlt
  rw [step_read hp ha (by omega)]
  have hdraws : decide (0x400 ≤ off) = false := by simpa using hlt
  simp only [State.hostRead, hdraws, Bool.false_and, Bool.false_eq_true, if_false]
  congr 2
  by_cases hoff : off ∈ readableOffsets
  · simp only [readableOffsets, List.mem_cons, List.not_mem_nil, or_false] at hoff
    rcases hoff with rfl | rfl | rfl | rfl | rfl | rfl
    · exact State.status_eq_ofNat _
    · change s.err.bits.setWidth 32 = _
      cases s.err <;> rfl
    · rfl
    · rfl
    · rfl
    · rfl
  · rw [State.readReg_eq_zero _ hlt hoff]
    split
    case h_7 => rfl
    all_goals exact absurd (by decide) hoff

/-! ## The STATE window (10_state.md R35) -/

theorem State.readReg_window (s : State) (b : Nat) : s.readReg (0x400 + b) = s.windowWord b := by
  unfold State.readReg
  split
  case h_7 => rw [if_pos (by omega), Nat.add_sub_cancel_left]
  all_goals omega

/-- A read of the window shows four bytes of it, and uses up a free value where one of them has none (log 7). -/
theorem step_read_window {s : State} {i : Nat} {rest : List HostAction}
    (h : Performs s (.read (0x400 + 4 * i) 32) rest) (hi : i < 256) :
    step s = .next { s with host := rest, rdata := s.windowWord (4 * i),
                            draws := if s.windowFree then s.draws + 1 else s.draws } := by
  rw [step_read h (by omega) (by omega), State.hostRead, State.readReg_window]
  have hwindow : decide (0x400 ≤ 0x400 + 4 * i) = true := by simp
  rw [hwindow, Bool.true_and]
  rfl

theorem State.windowWord_toNat (s : State) (b : Nat) :
    (s.windowWord b).toNat = (s.windowByte b).toNat + 2 ^ 8 * (s.windowByte (b + 1)).toNat
      + 2 ^ 16 * (s.windowByte (b + 2)).toNat + 2 ^ 24 * (s.windowByte (b + 3)).toNat :=
  leWord_four_toNat _ _ _ _

theorem State.windowWord_byte (s : State) (b : Nat) {j : Nat} (hj : j < 4) :
    (s.windowWord b).extractLsb' (8 * j) 8 = s.windowByte (b + j) := by
  rw [State.windowWord, leWord_four_byte _ rfl hj]
  match j, hj with
  | 0, _ | 1, _ | 2, _ | 3, _ => rfl

/-- With no instance every byte of the window is a free value. -/
theorem State.windowByte_invalid {s : State} (hv : s.valid = false) (b : Nat) :
    s.windowByte b = Config.windowByte s.draws b := by
  simp [State.windowByte, hv]

section
variable {s : State} {f : Fam} {n : Lanes} (hv : s.valid = true) (hc : s.cfg = cfgOf f n)
include hv hc

/-- The bytes of the window that have a value, for every family (10_state.md R35). -/
theorem State.windowByte_shown (hbuf : f = .aesrand → s.inst.buf.length = 1) (b : Nat) :
    s.windowByte b =
      (stateBytes s.inst.S ++ if f = .aesrand then image s.inst.buf else []).getD b 0 := by
  have himg : s.inst.stateImage = stateBytes s.inst.S := rfl
  have hfam : s.cfg.fam = Fam.aesrand.code ↔ f = .aesrand := by rw [hc]; exact Fam.code_inj
  unfold State.windowByte
  rw [himg]
  by_cases hb : b < (stateBytes s.inst.S).length
  · simp [hv, hb, List.getElem?_append_left hb]
  rw [List.getD_append_right _ _ _ _ (by omega)]
  by_cases hf : f = .aesrand
  · have himage : (image s.inst.buf).length = 16 := by rw [image_length, hbuf hf]
    have hne : s.inst.buf.isEmpty = false := by simp [List.isEmpty_eq_false_iff, ← List.length_pos_iff, hbuf hf]
    by_cases hend : b < (stateBytes s.inst.S).length + 16
    · simp [hv, hb, hf, hfam, hne, hend]
    · have hpast : (image s.inst.buf).getD (b - (stateBytes s.inst.S).length) 0 = 0 :=
        List.getD_eq_default _ _ (by omega)
      rw [if_pos hf, hpast]
      simp [hv, hb, hend]
  · simp [hv, hb, hf, hfam]

theorem State.windowFree_shown (hbuf : f = .aesrand → s.inst.buf.length = 1) : s.windowFree = false := by
  have hfam : s.cfg.fam = Fam.aesrand.code ↔ f = .aesrand := by rw [hc]; exact Fam.code_inj
  by_cases hf : f = .aesrand
  · simp [State.windowFree, hv, List.isEmpty_eq_false_iff, ← List.length_pos_iff, hbuf hf]
  · simp [State.windowFree, hv, hfam, hf]

end

/-- The counter of an AESRAND instance is 16 bytes (10_state.md R22). -/
theorem stateBytes_aesrand_length {p : Params} {n : Lanes} {S : List LaneVec} (h : Shaped p .aesrand n S) :
    (stateBytes S).length = 16 := by
  obtain ⟨hK, hs⟩ := h
  obtain ⟨vs, rfl, hl⟩ := shaped128 hs
  match vs, hK with
  | [v], _ => simpa [stateBytes, LaneVec.image, shapeLanes] using hl v

/-- The window of an AESRAND instance before its first GEN: the counter, 16 free bytes, zeros (45_seeding.md R336;
log 2, 7). -/
theorem State.windowByte_fresh {s : State} {n : Lanes} (hv : s.valid = true) (hc : s.cfg = cfgOf .aesrand n)
    (hs : HoldsShape s .aesrand n) (hbuf : s.inst.buf = []) (b : Nat) :
    s.windowByte b =
      if b < 16 then (stateBytes s.inst.S).getD b 0
      else if b < 32 then Config.windowByte s.draws b
      else 0 := by
  have himg : s.inst.stateImage = stateBytes s.inst.S := rfl
  have hfam : s.cfg.fam = Fam.aesrand.code := congrArg Cfg.fam hc
  simp [State.windowByte, himg, stateBytes_aesrand_length hs.1, hv, hbuf, hfam]

/-- Settles O14: a read shows four bytes of the window, and each byte is the image's, a free one, or zero. -/
theorem theStateWindowShowsTheInstance : Obligations.TheStateWindowShowsTheInstance := by
  intro s i rest hp hi
  refine ⟨fun f n _ hv hc _ hbuf => ?_, fun n hv hc hs hbuf => ?_, fun hv => ?_⟩
  · refine ⟨s.windowWord (4 * i), ?_, ?_⟩
    · rw [step_read_window hp hi, State.windowFree_shown hv hc hbuf]
      rfl
    · simp only [← State.windowByte_shown hv hc hbuf]
      exact s.windowWord_toNat _
  · have hfree : s.windowFree = true := by simp [State.windowFree, hbuf, congrArg Cfg.fam hc, cfgOf]
    refine ⟨s.windowWord (4 * i), by rw [step_read_window hp hi, if_pos hfree], fun j hj => ?_⟩
    rw [s.windowWord_byte _ hj, State.windowByte_fresh hv hc hs hbuf]
  · have hfree : s.windowFree = true := by simp [State.windowFree, hv]
    refine ⟨s.windowWord (4 * i), by rw [step_read_window hp hi, if_pos hfree], fun j hj => ?_⟩
    rw [s.windowWord_byte _ hj, State.windowByte_invalid hv]

/-! ## The registers after reset (10_state.md R37) -/

/-- Settles O1: reset gives each of these registers its value, and STATUS is computed from them. -/
theorem resetLeavesTheSpecsValues : Obligations.ResetLeavesTheSpecsValues :=
  ⟨rfl, rfl, rfl, rfl, rfl, rfl, rfl, rfl, rfl⟩

end Sys2Proof.Machine
end

section
/-! O15, O52 and O58: the accesses, OUT and the byte images (20_memory.md R63, R65, R66, R71). An access outside the spec
stops whatever its effect would be. OUT is touched by GEN and FILL alone (`exec_out_cases`), and by the hardware reset. -/

namespace Sys2Proof.Machine

/-! ## The step of an action, and the accesses that stop (20_memory.md R71, R74) -/

theorem step_of_performs {s : State} {a : HostAction} {rest : List HostAction} (h : Performs s a rest) :
    step s = act a { s with host := rest } := by
  obtain ⟨hp, hh⟩ := h
  rcases step_cases s with ⟨hp', -⟩ | ⟨-, hh', -⟩ | ⟨a', rest', -, hh', heq⟩
  · simp [hp] at hp'
  · simp [hh] at hh'
  · obtain ⟨rfl, rfl⟩ : a = a' ∧ rest = rest' := by simpa [hh] using hh'
    exact heq

theorem access_of_not_aligned32 {off bits : Nat} (h : bits ≠ 32 ∨ off % 4 ≠ 0) (effect : Result) :
    access off bits effect = .refused (.notAligned32 off bits) := if_pos h

theorem access_of_outside {off : Nat} (ha : off % 4 = 0) (ho : 0x800 ≤ off) (effect : Result) :
    access off 32 effect = .fault (.outsideRegisterSpace off) :=
  (if_neg (by simp [ha])).trans (if_pos ho)

/-- Settles O15: the step of a read or a write is an access, which stops before its effect. -/
theorem accessesOutsideTheSpecStop : Obligations.AccessesOutsideTheSpecStop := by
  intro s off bits v rest h
  have hstep : ∃ effect, step s = access off bits effect := by
    rcases h with h | h
    · exact ⟨_, step_of_performs h⟩
    · exact ⟨_, step_of_performs h⟩
  obtain ⟨effect, hstep⟩ := hstep
  rw [hstep]
  refine ⟨fun hbad => access_of_not_aligned32 hbad effect, ?_⟩
  rintro rfl ha ho
  exact access_of_outside ha ho effect

/-! ## Byte images (20_memory.md R63) -/

theorem le_image {W : Nat} (hW : W % 8 = 0) (v : Vec W) : le W v.length (image v) = v := by
  simpa using le_image_append hW v []

/-- Settles O58, by the lemmas on the bytes of an image and on its inverse. -/
theorem byteImagesAreLittleEndianLaneByLane : Obligations.ByteImagesAreLittleEndianLaneByLane := by
  intro W _ hW
  refine ⟨fun v => ⟨image_length v, le_image hW v⟩, fun v _ _ _ hj hi => image_getElem? v hj hi, ?_⟩
  exact fun N bytes h => ⟨le_length W N bytes, image_le N bytes h⟩

/-! ## What leaves OUT as it is (20_memory.md R65, R66) -/

theorem DrawnFrom.out {s t : State} (h : DrawnFrom s t) : t.out = s.out := by
  obtain ⟨_, _, rfl⟩ := h.eq_update
  rfl

@[simp] theorem State.hostWrite_out (s : State) (off : Nat) (v : Word) : (s.hostWrite off v).out = s.out := by
  unfold State.hostWrite
  split
  · rfl
  · exact s.seedPush_out _
  · rfl

@[simp] theorem SeedEnd.finish_out (e : SeedEnd) (i : Instr) (c : Cfg) (post : List LaneVec → List LaneVec) :
    (e.finish i c post).out = e.state.out := by
  cases e <;> rfl

/-- A seeding from the entropy source, however it ends (45_seeding.md R346). -/
theorem SeedEnd.Ends.finish_out {e : SeedEnd} {s : State} {P : List LaneVec → Prop} (h : e.Ends s.dropInstance P)
    (i : Instr) (c : Cfg) (post : List LaneVec → List LaneVec) : (e.finish i c post).out = s.out := by
  rw [SeedEnd.finish_out, h.drawn.out, State.dropInstance_out]

theorem State.seedFixedWith_out {s : State} {i : Instr} (he : s.err = .none) (hw : i.wf = true) (f : Fam) (c : Cfg)
    (p : SeedProc) : (s.seedFixedWith i f c p).out = s.out := by
  rcases State.seedFixedWith_cases he hw f c p with ⟨-, hx⟩ | ⟨-, -, hx⟩ | ⟨-, -, -, hx⟩ <;> rw [hx]
  · exact State.raise_out _ _ _ _
  · rw [State.raise_out, State.dropInstance_out]
  · rw [State.install_out, State.dropInstance_out]

/-- The three operations that seed a family. -/
def SeedingCommand (i : Instr) (f : Fam) (n : Lanes) : Prop :=
  i = Instr.seedRng f n ∨ i = Instr.seedBlocks f n ∨ i = Instr.seedFixed f n

theorem SeedingCommand.family {i : Instr} {f : Fam} {n : Lanes} (hi : SeedingCommand i f n) : FamilyCommand i f n := by
  rcases hi with hi | hi | hi
  · exact .inl hi
  · exact .inr (.inl hi)
  · exact .inr (.inr (.inl hi))

theorem out_exec_seeding_unblocked {s t : State} {i : Instr} {f : Fam} {n : Lanes} (hi : SeedingCommand i f n)
    (he : s.err = .none) (hn : f.admits n = true) (hx : exec i s = .next t) : t.out = s.out := by
  rcases hi with rfl | rfl | rfl
  · obtain ⟨e, heq, hends⟩ := exec_seedRng_ends f n s hn he
    obtain rfl := Host.Outcome.next.inj (heq.symm.trans hx)
    exact hends.finish_out _ _ _
  · by_cases hf : f = .xoroshiro128ss ∨ f = .xoshiro256ss
    · obtain ⟨e, post, heq, hends⟩ := exec_seedBlocks_ends hf n s hn he
      obtain rfl := Host.Outcome.next.inj (heq.symm.trans hx)
      exact hends.finish_out _ _ _
    · obtain ⟨h1, h2⟩ := not_or.1 hf
      rw [exec_seedBlocks_unsupported h1 h2, State.seedBlocksUnsupported, State.command_ok he (by simpa using hn)] at hx
      obtain rfl := Host.Outcome.next.inj hx
      exact State.raise_out _ _ _ _
  · rw [exec_seedFixed] at hx
    obtain rfl := Host.Outcome.next.inj hx
    exact State.seedFixedWith_out he (by simpa using hn) _ _ _

/-- A seeding leaves OUT as it is: blocked, refused as ill-formed, or run (47_control.md R360, R365). -/
theorem out_exec_seeding {s t : State} {i : Instr} {f : Fam} {n : Lanes} (hi : SeedingCommand i f n)
    (hx : exec i s = .next t) : t.out = s.out := by
  obtain ⟨effect, heq⟩ := exec_eq_command hi.family s
  obtain rfl := Host.Outcome.next.inj (heq.symm.trans hx)
  rcases s.command_cases i effect with ⟨-, hc⟩ | ⟨he, hw, -⟩ | ⟨-, -, hc⟩
  · rw [hc]
  · exact out_exec_seeding_unblocked hi he (hi.family.wf ▸ hw) hx
  · rw [hc, State.raise_out]

/-! ## What appends to OUT (20_memory.md R66) -/

/-- GEN and FILL append what their effect appends, or nothing where a check fails (47_control.md R364, R365). -/
theorem State.withInstance_out_prefix {s : State} {effect : State → State} (h : s.out <+: (effect s).out) (i : Instr)
    (c : Cfg) : s.out <+: (s.withInstance i c effect).out := by
  rcases s.withInstance_cases i c effect with
    ⟨-, hx⟩ | ⟨-, -, hx⟩ | ⟨-, -, -, hx⟩ | ⟨-, -, -, -, hx⟩ | ⟨-, -, -, -, hx⟩ <;> rw [hx]
  case inr.inr.inr.inr => exact h
  all_goals exact List.prefix_rfl

theorem State.genWith_out_prefix (s : State) (i : Instr) (c : Cfg) (step : StepFn) :
    s.out <+: (s.genWith i c step).out :=
  State.withInstance_out_prefix (List.prefix_append _ _) i c

theorem State.fillWith_out_prefix (s : State) (i : Instr) (c : Cfg) (step : StepFn) :
    s.out <+: (s.fillWith i c step).out :=
  State.withInstance_out_prefix (List.prefix_append _ _) i c

/-- Everything a command can do to OUT: nothing, or, for a GEN or a FILL, an append. -/
theorem exec_out_cases {i : Instr} {s t : State} (hx : exec i s = .next t) :
    t.out = s.out ∨ ((∃ f n, i = Instr.gen f n ∨ i = Instr.fill f n) ∧ s.out <+: t.out) := by
  rcases Instr_cases i with rfl | rfl | rfl | ⟨f, n, hi | hi | hi | rfl | rfl⟩
  · obtain rfl := Host.Outcome.next.inj (show Host.Outcome.next s = .next t from hx)
    exact .inl rfl
  · obtain rfl := Host.Outcome.next.inj (show Host.Outcome.next s.clearError = .next t from hx)
    exact .inl s.clearError_out
  · obtain rfl := Host.Outcome.next.inj (show Host.Outcome.next s.softReset = .next t from hx)
    exact .inl s.softReset_out
  · exact .inl (out_exec_seeding (.inl hi) hx)
  · exact .inl (out_exec_seeding (.inr (.inl hi)) hx)
  · exact .inl (out_exec_seeding (.inr (.inr hi)) hx)
  · obtain rfl := Host.Outcome.next.inj ((exec_gen f n s).symm.trans hx)
    exact .inr ⟨⟨f, n, .inl rfl⟩, s.genWith_out_prefix _ _ _⟩
  · obtain rfl := Host.Outcome.next.inj ((exec_fill f n s).symm.trans hx)
    exact .inr ⟨⟨f, n, .inr rfl⟩, s.fillWith_out_prefix _ _ _⟩

theorem out_prefix_of_eq {s t : State} (h : t.out = s.out) : s.out <+: t.out := h ▸ List.prefix_rfl

theorem exec_out_prefix {i : Instr} {s t : State} (hx : exec i s = .next t) : s.out <+: t.out := by
  rcases exec_out_cases hx with h | ⟨-, h⟩
  · exact out_prefix_of_eq h
  · exact h

theorem issue_out_prefix {w : Word} {s t : State} (hx : issue w s = .next t) : s.out <+: t.out := by
  rcases issue_cases w s with ⟨i, -, heq⟩ | ⟨-, -, heq⟩ | ⟨-, -, heq⟩ <;> rw [heq] at hx
  · exact exec_out_prefix hx
  · obtain rfl := Host.Outcome.next.inj hx
    exact List.prefix_rfl
  · obtain rfl := Host.Outcome.next.inj hx
    exact out_prefix_of_eq (State.raise_out _ _ _ _)

/-- Every action but the hardware reset, which restarts the history (70_reset_and_hazards.md R410). -/
theorem act_out_prefix {a : HostAction} {s t : State} (ha : a ≠ .reset) (hx : act a s = .next t) : s.out <+: t.out := by
  cases a with
  | write off bits v =>
    have hx := access_eq_next hx
    split at hx
    · exact issue_out_prefix hx
    · obtain rfl := Host.Outcome.next.inj hx
      exact out_prefix_of_eq (s.hostWrite_out off v)
  | read off bits =>
    obtain rfl := Host.Outcome.next.inj (access_eq_next hx)
    exact out_prefix_of_eq (s.hostRead_out off)
  | reset => exact absurd rfl ha

/-- Settles O52: a step that does anything is an action of the host, and a command appends or leaves OUT as it is. -/
theorem outOnlyGrowsAndOnlyByGenAndFill : Obligations.OutOnlyGrowsAndOnlyByGenAndFill := by
  refine ⟨fun s t hx hreset => ?_, fun i s t hx hi => ?_⟩
  · rcases step_cases s with ⟨-, heq⟩ | ⟨-, -, heq⟩ | ⟨a, rest, hp, hh, heq⟩ <;> rw [heq] at hx
    · obtain rfl := Host.Outcome.next.inj hx
      exact List.prefix_rfl
    · obtain rfl := Host.Outcome.next.inj hx
      exact List.prefix_rfl
    · have ha : a ≠ .reset := by
        rintro rfl
        exact hreset rest ⟨hp, hh⟩
      exact act_out_prefix (s := { s with host := rest }) ha hx
  · rcases exec_out_cases hx with h | ⟨⟨f, n, hgen | hfill⟩, -⟩
    · exact h
    · exact absurd hgen (hi f n).1
    · exact absurd hfill (hi f n).2

end Sys2Proof.Machine
end

section
/-! O4 to O7: command words (30_encoding.md R90 to R96). A word is the integer of its four fields, an operation's code is
followed by a family's or by zeros, and a word decodes to a command exactly when the command is well-formed and the word is
its encoding (`decode_eq_ok_iff`). -/

namespace Sys2Proof

open Machine

/-! ## The fields of a word (30_encoding.md R90) -/

theorem fieldOp_toNat (w : Word) : (fieldOp w).toNat = w.toNat / 2 ^ 28 := by
  rw [fieldOp, BitVec.extractLsb'_toNat, Nat.shiftRight_eq_div_pow]
  omega

theorem fieldFam_toNat (w : Word) : (fieldFam w).toNat = w.toNat / 2 ^ 20 % 256 := by
  rw [fieldFam, BitVec.extractLsb'_toNat, Nat.shiftRight_eq_div_pow]

theorem fieldLn_toNat (w : Word) : (fieldLn w).toNat = w.toNat / 2 ^ 17 % 8 := by
  rw [fieldLn, BitVec.extractLsb'_toNat, Nat.shiftRight_eq_div_pow]

theorem fieldZero_toNat (w : Word) : (fieldZero w).toNat = w.toNat % 2 ^ 17 := by
  rw [fieldZero, BitVec.extractLsb'_toNat, Nat.shiftRight_zero]

theorem wordOf_toNat (op : BitVec 4) (fam : BitVec 8) (ln : BitVec 3) :
    (wordOf op fam ln).toNat = 2 ^ 28 * op.toNat + 2 ^ 20 * fam.toNat + 2 ^ 17 * ln.toNat := by
  have hop : (op.setWidth 32).toNat = op.toNat := BitVec.toNat_setWidth_of_le (by decide)
  have hfam : (fam.setWidth 32).toNat = fam.toNat := BitVec.toNat_setWidth_of_le (by decide)
  have hln : (ln.setWidth 32).toNat = ln.toNat := BitVec.toNat_setWidth_of_le (by decide)
  have hop_lt := op.isLt
  have hfam_lt := fam.isLt
  have hln_lt := ln.isLt
  have h1 : (ln.setWidth 32 <<< 17).toNat = 2 ^ 17 * ln.toNat := by
    rw [BitVec.toNat_shiftLeft, hln, Nat.shiftLeft_eq]
    omega
  have h2 := toNat_or_shiftLeft (k := 20) (x := ln.setWidth 32 <<< 17) (y := fam.setWidth 32) (by omega) (by omega)
  have h3 := toNat_or_shiftLeft (k := 28) (x := ln.setWidth 32 <<< 17 ||| fam.setWidth 32 <<< 20) (y := op.setWidth 32)
    (by omega) (by omega)
  rw [wordOf, BitVec.or_comm, BitVec.or_comm (op.setWidth 32 <<< 28), ← BitVec.or_assoc, h3, h2, h1, hop, hfam]
  omega

/-- The fields lie side by side and cover the word. -/
theorem wordOf_eq_iff {op : BitVec 4} {fam : BitVec 8} {ln : BitVec 3} {w : Word} :
    wordOf op fam ln = w ↔ fieldOp w = op ∧ fieldFam w = fam ∧ fieldLn w = ln ∧ fieldZero w = 0 := by
  have hop := op.isLt
  have hfam := fam.isLt
  have hln := ln.isLt
  have hw := w.isLt
  simp only [← BitVec.toNat_inj, wordOf_toNat, fieldOp_toNat, fieldFam_toNat, fieldLn_toNat, fieldZero_toNat]
  rw [show (0 : BitVec 17).toNat = 0 from rfl]
  omega

/-! ## The code tables (30_encoding.md R92, R93, R94): each decoding of a code inverts the table -/

theorem Op.ofCode_eq_some_iff {c : BitVec 4} {op : Op} : Op.ofCode c = some op ↔ c = op.code := by
  constructor
  · intro h
    unfold Op.ofCode at h
    split at h <;> cases h <;> exact BitVec.eq_of_toNat_eq ‹_›
  · rintro rfl
    cases op <;> rfl

theorem Op.exists_code_iff {c : BitVec 4} : (∃ op : Op, c = op.code) ↔ c.toNat ≤ 7 := by
  constructor
  · rintro ⟨op, rfl⟩
    cases op <;> decide
  · intro h
    simp only [← Op.ofCode_eq_some_iff]
    unfold Op.ofCode
    split
    case h_9 => simp only [imp_false] at *; omega
    all_goals exact ⟨_, rfl⟩

theorem Fam.ofCode_eq_some_iff {c : BitVec 8} {f : Fam} : Fam.ofCode c = some f ↔ c = f.code := by
  constructor
  · intro h
    unfold Fam.ofCode at h
    split at h <;> cases h <;> exact BitVec.eq_of_toNat_eq ‹_›
  · rintro rfl
    cases f <;> rfl

theorem Fam.exists_code_iff {c : BitVec 8} : (∃ f : Fam, c = f.code) ↔ 1 ≤ c.toNat ∧ c.toNat ≤ 0x1C := by
  constructor
  · rintro ⟨f, rfl⟩
    cases f <;> decide
  · intro h
    simp only [← Fam.ofCode_eq_some_iff]
    unfold Fam.ofCode
    split
    case h_29 => simp only [imp_false] at *; omega
    all_goals exact ⟨_, rfl⟩

theorem Lanes.ofCode_eq_some_iff {c : BitVec 3} {n : Lanes} : Lanes.ofCode c = some n ↔ c = n.code := by
  constructor
  · intro h
    unfold Lanes.ofCode at h
    split at h <;> cases h <;> exact BitVec.eq_of_toNat_eq ‹_›
  · rintro rfl
    cases n <;> rfl

theorem Lanes.exists_code_iff {c : BitVec 3} : (∃ n : Lanes, c = n.code) ↔ 1 ≤ c.toNat ∧ c.toNat ≤ 4 := by
  constructor
  · rintro ⟨n, rfl⟩
    cases n <;> decide
  · intro h
    simp only [← Lanes.ofCode_eq_some_iff]
    unfold Lanes.ofCode
    split
    case h_5 => simp only [imp_false] at *; omega
    all_goals exact ⟨_, rfl⟩

/-! ## The lane counts a family admits, and their codes (30_encoding.md R94, R95 (d)) -/

theorem Fam.admits_iff {f : Fam} {n : Lanes} : f.admits n = true ↔ ¬ (f = .mwc ∧ n = .x16) := by
  unfold Fam.admits
  split
  · simp
  · next h => simpa using fun hf hn => h hf hn

theorem Fam.isFixed_iff {f : Fam} : f.isFixed = true ↔ 0x17 ≤ f.code.toNat := by cases f <;> decide

theorem Fam.eq_mwc_iff {f : Fam} : f = .mwc ↔ f.code.toNat = 0x11 := by cases f <;> decide

theorem Fam.admits_of_isFixed {f : Fam} (hf : f.isFixed = true) (n : Lanes) : f.admits n = true :=
  Fam.admits_iff.2 fun ⟨hmwc, _⟩ => by simp [hmwc, Fam.isFixed] at hf

theorem Fam.lnCode_of_isFixed {f : Fam} (hf : f.isFixed = true) (n : Lanes) : f.lnCode n = 0 := if_pos hf

theorem Fam.lnCode_of_not_isFixed {f : Fam} (hf : ¬ f.isFixed = true) (n : Lanes) : f.lnCode n = n.code := if_neg hf

/-- LN is a code the family admits, FAM and LN as integers (30_encoding.md R95 (d)). -/
def LnAdmitted (fam ln : Nat) : Prop :=
  if 0x17 ≤ fam then ln = 0
  else if fam = 0x11 then 1 ≤ ln ∧ ln ≤ 3
  else 1 ≤ ln ∧ ln ≤ 4

theorem Fam.exists_admits_lnCode_iff {f : Fam} {ln : BitVec 3} :
    (∃ n, f.admits n = true ∧ ln = f.lnCode n) ↔
      LnAdmitted f.code.toNat ln.toNat := by
  simp only [LnAdmitted, ← Fam.isFixed_iff, ← Fam.eq_mwc_iff]
  split
  · next hf =>
    simp only [Fam.admits_of_isFixed hf, Fam.lnCode_of_isFixed hf, true_and, ← BitVec.toNat_inj]
    exact ⟨fun ⟨_, h⟩ => h, fun h => ⟨.x2, h⟩⟩
  · next hf =>
    simp only [Fam.lnCode_of_not_isFixed hf, Fam.admits_iff]
    split
    · next hmwc =>
      constructor
      · rintro ⟨n, hn, rfl⟩
        cases n <;> simp_all [Lanes.code]
      · intro h
        obtain ⟨n, rfl⟩ := Lanes.exists_code_iff.2 ⟨h.1, by omega⟩
        exact ⟨n, by rintro ⟨-, rfl⟩; exact absurd h (by decide), rfl⟩
    · next hmwc => simp [hmwc, Lanes.exists_code_iff]

/-! ## The commands of an operation (30_encoding.md R91, R92) -/

/-- What an operation is completed by: nothing (NOP, CLRERR, RESET), or a family and a lane count. -/
def Op.command : Op → Instr ⊕ (Fam → Lanes → Instr)
  | .nop => .inl .nop
  | .seedRng => .inr Instr.seedRng
  | .seedBlocks => .inr Instr.seedBlocks
  | .seedFixed => .inr Instr.seedFixed
  | .gen => .inr Instr.gen
  | .fill => .inr Instr.fill
  | .clrerr => .inl .clrerr
  | .reset => .inl .reset

theorem Op.command_cases (op : Op) : (∃ i, op.command = .inl i) ∨ ∃ k, op.command = .inr k := by
  cases h : op.command with
  | inl i => exact .inl ⟨i, rfl⟩
  | inr k => exact .inr ⟨k, rfl⟩

theorem Op.control_iff {op : Op} :
    (∃ i, op.command = .inl i) ↔ op.code.toNat = 0 ∨ op.code.toNat = 6 ∨ op.code.toNat = 7 := by
  cases op <;> simp [Op.command, Op.code]

theorem Op.family_iff {op : Op} : (∃ k, op.command = .inr k) ↔ 1 ≤ op.code.toNat ∧ op.code.toNat ≤ 5 := by
  cases op <;> simp [Op.command, Op.code]

/-- Every command is of one operation. -/
theorem Instr.exists_op (i : Instr) :
    ∃ op : Op, op.command = .inl i ∨ ∃ k f n, op.command = .inr k ∧ i = k f n := by
  rcases Instr_cases i with rfl | rfl | rfl | ⟨f, n, rfl | rfl | rfl | rfl | rfl⟩
  · exact ⟨.nop, .inl rfl⟩
  · exact ⟨.clrerr, .inl rfl⟩
  · exact ⟨.reset, .inl rfl⟩
  · exact ⟨.seedRng, .inr ⟨_, f, n, rfl, rfl⟩⟩
  · exact ⟨.seedBlocks, .inr ⟨_, f, n, rfl, rfl⟩⟩
  · exact ⟨.seedFixed, .inr ⟨_, f, n, rfl, rfl⟩⟩
  · exact ⟨.gen, .inr ⟨_, f, n, rfl, rfl⟩⟩
  · exact ⟨.fill, .inr ⟨_, f, n, rfl, rfl⟩⟩

/-- The lane count a command holds: a fixed-shape family's commands hold none, and `parts` has 2 for them. -/
def Fam.heldLanes (f : Fam) (n : Lanes) : Lanes := if f.isFixed then .x2 else n

section
variable {op : Op} {i : Instr} {k : Fam → Lanes → Instr}

theorem Op.parts_control (h : op.command = .inl i) : i.parts = (op, none) := by
  cases op <;> cases h <;> rfl

theorem Op.parts_family (h : op.command = .inr k) (f : Fam) (n : Lanes) :
    (k f n).parts = (op, some (f, f.heldLanes n)) := by
  cases op <;> cases h <;> cases f <;> rfl

theorem Op.familyCommand (h : op.command = .inr k) (f : Fam) (n : Lanes) : FamilyCommand (k f n) f n := by
  cases op <;> cases h <;> simp [FamilyCommand]

theorem Op.wf_control (h : op.command = .inl i) : i.wf = true := by
  rw [Instr.wf, Op.parts_control h]

theorem Op.wf_family (h : op.command = .inr k) (f : Fam) (n : Lanes) : (k f n).wf = f.admits n :=
  (Op.familyCommand h f n).wf

theorem Op.eq_of_isFixed (h : op.command = .inr k) {f : Fam} (hf : f.isFixed = true) (m n : Lanes) : k f m = k f n := by
  cases op <;> cases h <;> cases f <;> first | rfl | contradiction

theorem Op.encode_control (h : op.command = .inl i) : encode i = wordOf op.code 0 0 := by
  rw [encode, Op.parts_control h]

theorem Fam.lnCode_heldLanes (f : Fam) (n : Lanes) : f.lnCode (f.heldLanes n) = f.lnCode n := by
  by_cases hf : f.isFixed = true
  · rw [Fam.lnCode_of_isFixed hf, Fam.lnCode_of_isFixed hf]
  · rw [Fam.heldLanes, if_neg hf]

theorem Op.encode_family (h : op.command = .inr k) (f : Fam) (n : Lanes) :
    encode (k f n) = wordOf op.code f.code (f.lnCode n) := by
  simp only [encode, Op.parts_family h, Fam.lnCode_heldLanes]

/-! ## The decoder's tests (30_encoding.md R96) -/

theorem decodeControl_eq_ok_iff {j : Instr} {fam : BitVec 8} {ln : BitVec 3} :
    decodeControl i fam ln = .ok j ↔ fam = 0 ∧ ln = 0 ∧ i = j := by
  unfold decodeControl
  split
  · next h => simp [h]
  · next h => simpa using fun hf hl => absurd ⟨hf, hl⟩ h

theorem decodeFamily_eq_ok_iff (h : op.command = .inr k) {fam : BitVec 8} {ln : BitVec 3} :
    decodeFamily k fam ln = .ok i ↔ ∃ f n, fam = f.code ∧ (f.admits n = true ∧ ln = f.lnCode n) ∧ k f n = i := by
  constructor
  · intro hd
    unfold decodeFamily at hd
    split at hd
    · cases hd
    · next f hfam =>
      refine ⟨f, ?_⟩
      rw [← Fam.ofCode_eq_some_iff]
      split at hd
      · next hf =>
        split at hd
        · next hln =>
          refine ⟨.x2, hfam, ⟨Fam.admits_of_isFixed hf _, ?_⟩, Except.ok.inj hd⟩
          rwa [Fam.lnCode_of_isFixed hf]
        · cases hd
      · next hf =>
        split at hd
        · cases hd
        · next n hln =>
          split at hd
          · next hn =>
            refine ⟨n, hfam, ⟨hn, ?_⟩, Except.ok.inj hd⟩
            rwa [Fam.lnCode_of_not_isFixed hf, ← Lanes.ofCode_eq_some_iff]
          · cases hd
  · rintro ⟨f, n, rfl, ⟨hn, rfl⟩, rfl⟩
    by_cases hf : f.isFixed = true
    · simp [decodeFamily, Fam.ofCode_eq_some_iff.2 rfl, hf, Fam.lnCode_of_isFixed hf, Op.eq_of_isFixed h hf .x2 n]
    · simp [decodeFamily, Fam.ofCode_eq_some_iff.2 rfl, hf, Fam.lnCode_of_not_isFixed hf,
        Lanes.ofCode_eq_some_iff.2 rfl, hn]

/-- The tests of OP and ZERO, which come first. -/
theorem fields_of_decode_eq_ok {w : Word} (h : decode w = .ok i) : ∃ op : Op, fieldOp w = op.code ∧ fieldZero w = 0 := by
  unfold decode at h
  split at h
  · cases h
  · next op hop =>
    split at h
    · cases h
    · next hz => exact ⟨op, Op.ofCode_eq_some_iff.1 hop, not_not.1 hz⟩

theorem decode_of_control (h : op.command = .inl i) {w : Word} (hop : fieldOp w = op.code) (hz : fieldZero w = 0) :
    decode w = decodeControl i (fieldFam w) (fieldLn w) := by
  rw [decode, Op.ofCode_eq_some_iff.2 hop]
  cases op <;> cases h <;> exact if_neg (not_not.2 hz)

theorem decode_of_family (h : op.command = .inr k) {w : Word} (hop : fieldOp w = op.code) (hz : fieldZero w = 0) :
    decode w = decodeFamily k (fieldFam w) (fieldLn w) := by
  rw [decode, Op.ofCode_eq_some_iff.2 hop]
  cases op <;> cases h <;> exact if_neg (not_not.2 hz)

end

/-- What a word decodes to: the one well-formed command whose word it is (30_encoding.md R96). -/
theorem decode_eq_ok_iff {w : Word} {i : Instr} : decode w = .ok i ↔ i.wf = true ∧ encode i = w := by
  constructor
  · intro h
    obtain ⟨op, hop, hz⟩ := fields_of_decode_eq_ok h
    rcases op.command_cases with ⟨j, hj⟩ | ⟨k, hk⟩
    · rw [decode_of_control hj hop hz, decodeControl_eq_ok_iff] at h
      obtain ⟨hfam, hln, rfl⟩ := h
      exact ⟨Op.wf_control hj, Op.encode_control hj ▸ wordOf_eq_iff.2 ⟨hop, hfam, hln, hz⟩⟩
    · rw [decode_of_family hk hop hz, decodeFamily_eq_ok_iff hk] at h
      obtain ⟨f, n, hfam, ⟨hn, hln⟩, rfl⟩ := h
      exact ⟨(Op.wf_family hk f n).trans hn, Op.encode_family hk f n ▸ wordOf_eq_iff.2 ⟨hop, hfam, hln, hz⟩⟩
  · rintro ⟨hwf, hw⟩
    obtain ⟨op, hi | ⟨k, f, n, hk, rfl⟩⟩ := i.exists_op
    · rw [Op.encode_control hi, wordOf_eq_iff] at hw
      obtain ⟨hop, hfam, hln, hz⟩ := hw
      rw [decode_of_control hi hop hz, decodeControl_eq_ok_iff]
      exact ⟨hfam, hln, rfl⟩
    · rw [Op.encode_family hk, wordOf_eq_iff] at hw
      obtain ⟨hop, hfam, hln, hz⟩ := hw
      rw [decode_of_family hk hop hz, decodeFamily_eq_ok_iff hk]
      exact ⟨f, n, hfam, ⟨Op.wf_family hk f n ▸ hwf, hln⟩, rfl⟩

/-- Settles O5: the word of a well-formed command decodes to it. -/
theorem decodingAnEncodedCommandGivesItBack : Obligations.DecodingAnEncodedCommandGivesItBack :=
  fun _ hwf => decode_eq_ok_iff.2 ⟨hwf, rfl⟩

/-- Settles O6: a word decodes to well-formed commands only, and only to those it is the word of. -/
theorem encodingADecodedWordGivesItBack : Obligations.EncodingADecodedWordGivesItBack :=
  fun _ _ => decode_eq_ok_iff.1

/-! ## The words that decode, by their fields (30_encoding.md R95) -/

/-- FAM names a family and LN a lane count it admits (30_encoding.md R95 (d)). -/
def FamilyFields (fam : BitVec 8) (ln : BitVec 3) : Prop :=
  ∃ f : Fam, fam = f.code ∧ ∃ n, f.admits n = true ∧ ln = f.lnCode n

/-- OP names an operation, and FAM and LN are as it requires (30_encoding.md R95 (a), (c), (d)). -/
def CommandFields (op : BitVec 4) (fam : BitVec 8) (ln : BitVec 3) : Prop :=
  ∃ o : Op, op = o.code ∧ ((∃ i, o.command = .inl i) → fam = 0 ∧ ln = 0) ∧
    ((∃ k, o.command = .inr k) → FamilyFields fam ln)

theorem exists_decode_eq_ok_iff {w : Word} :
    (∃ i, decode w = .ok i) ↔ CommandFields (fieldOp w) (fieldFam w) (fieldLn w) ∧ fieldZero w = 0 := by
  constructor
  · rintro ⟨i, h⟩
    obtain ⟨op, hop, hz⟩ := fields_of_decode_eq_ok h
    refine ⟨⟨op, hop, ?_, ?_⟩, hz⟩
    · rintro ⟨j, hj⟩
      rw [decode_of_control hj hop hz, decodeControl_eq_ok_iff] at h
      exact ⟨h.1, h.2.1⟩
    · rintro ⟨k, hk⟩
      rw [decode_of_family hk hop hz, decodeFamily_eq_ok_iff hk] at h
      obtain ⟨f, n, hfam, hn, -⟩ := h
      exact ⟨f, hfam, n, hn⟩
  · rintro ⟨⟨op, hop, hcontrol, hfamily⟩, hz⟩
    rcases op.command_cases with ⟨i, hi⟩ | ⟨k, hk⟩
    · obtain ⟨hfam, hln⟩ := hcontrol ⟨i, hi⟩
      exact ⟨i, by rw [decode_of_control hi hop hz, decodeControl_eq_ok_iff]; exact ⟨hfam, hln, rfl⟩⟩
    · obtain ⟨f, hfam, n, hn⟩ := hfamily ⟨k, hk⟩
      exact ⟨k f n, by rw [decode_of_family hk hop hz, decodeFamily_eq_ok_iff hk]; exact ⟨f, n, hfam, hn, rfl⟩⟩

/-- R95 (d) on the integers of FAM and LN. -/
theorem familyFields_iff {fam : BitVec 8} {ln : BitVec 3} :
    FamilyFields fam ln ↔
      1 ≤ fam.toNat ∧ fam.toNat ≤ 0x1C ∧ LnAdmitted fam.toNat ln.toNat := by
  simp only [FamilyFields, Fam.exists_admits_lnCode_iff]
  constructor
  · rintro ⟨f, rfl, hln⟩
    obtain ⟨hlow, hhigh⟩ := Fam.exists_code_iff.1 ⟨f, rfl⟩
    exact ⟨hlow, hhigh, hln⟩
  · rintro ⟨hlow, hhigh, hln⟩
    obtain ⟨f, rfl⟩ := Fam.exists_code_iff.2 ⟨hlow, hhigh⟩
    exact ⟨f, rfl, hln⟩

/-- R95 (a), (c) and (d) on the integers of OP, FAM and LN. -/
theorem commandFields_iff {op : BitVec 4} {fam : BitVec 8} {ln : BitVec 3} :
    CommandFields op fam ln ↔ op.toNat ≤ 7 ∧
      ((op.toNat = 0 ∨ op.toNat = 6 ∨ op.toNat = 7) → fam.toNat = 0 ∧ ln.toNat = 0) ∧
      ((1 ≤ op.toNat ∧ op.toNat ≤ 5) → 1 ≤ fam.toNat ∧ fam.toNat ≤ 0x1C ∧ LnAdmitted fam.toNat ln.toNat) := by
  simp only [CommandFields, familyFields_iff, Op.control_iff, Op.family_iff, ← BitVec.toNat_inj (y := 0)]
  constructor
  · rintro ⟨o, rfl, hcontrol, hfamily⟩
    exact ⟨Op.exists_code_iff.1 ⟨o, rfl⟩, hcontrol, hfamily⟩
  · rintro ⟨hop, hcontrol, hfamily⟩
    obtain ⟨o, rfl⟩ := Op.exists_code_iff.2 hop
    exact ⟨o, rfl, hcontrol, hfamily⟩

/-! ## The list of the words that decode (30_encoding.md R95) -/

def controlOps : List Op := [.nop, .clrerr, .reset]

def familyOps : List Op := [.seedRng, .seedBlocks, .seedFixed, .gen, .fill]

def allFams : List Fam :=
  [.xorshift32, .xorshift128, .xorshift128plus, .xoroshiro128ss, .xoshiro128ss, .xoshiro256ss, .xoshiro512ss, .pcg32,
   .pcg32Xsh, .pcg32Xsl, .lcg32, .lcg16, .jsf32, .jsf64, .lfsr113, .lfsr258, .mwc, .sfc64, .sfc32, .sfc16, .xsm32, .xsm64,
   .chacha4, .chacha4f, .ars5, .ars7, .aesrand, .sselcg]

/-- Each family with each lane count its commands hold and it admits. -/
def familyShapes : List (Fam × Lanes) :=
  (allFams ×ˢ [Lanes.x2, .x4, .x8, .x16]).filter fun (f, n) => f.admits n && f.heldLanes n = n

/-- The parts of the well-formed commands: 3 + 5 × (21 × 4 + 1 × 3 + 6 × 1). -/
def wellFormedParts : List (Op × Option (Fam × Lanes)) :=
  controlOps.map (·, none) ++ familyOps ×ˢ familyShapes.map some

/-- The word of a command's parts. -/
def wordOfParts : Op × Option (Fam × Lanes) → Word
  | (op, none) => wordOf op.code 0 0
  | (op, some (f, n)) => wordOf op.code f.code (f.lnCode n)

theorem encode_eq_wordOfParts (i : Instr) : encode i = wordOfParts i.parts := rfl

theorem mem_controlOps {op : Op} : op ∈ controlOps ↔ ∃ i, op.command = .inl i := by
  cases op <;> simp [controlOps, Op.command]

theorem mem_familyOps {op : Op} : op ∈ familyOps ↔ ∃ k, op.command = .inr k := by
  cases op <;> simp [familyOps, Op.command]

theorem mem_familyShapes {f : Fam} {n : Lanes} : (f, n) ∈ familyShapes ↔ f.admits n = true ∧ f.heldLanes n = n := by
  have hf : f ∈ allFams := by cases f <;> decide
  have hn : n ∈ [Lanes.x2, .x4, .x8, .x16] := by cases n <;> decide
  simp [familyShapes, hf, hn]

theorem Fam.heldLanes_heldLanes (f : Fam) (n : Lanes) : f.heldLanes (f.heldLanes n) = f.heldLanes n := by
  unfold Fam.heldLanes
  split <;> rfl

theorem Fam.admits_heldLanes (f : Fam) (n : Lanes) : f.admits (f.heldLanes n) = f.admits n := by
  by_cases hf : f.isFixed = true
  · rw [Fam.admits_of_isFixed hf, Fam.admits_of_isFixed hf]
  · rw [Fam.heldLanes, if_neg hf]

theorem mem_wellFormedParts {p : Op × Option (Fam × Lanes)} :
    p ∈ wellFormedParts ↔ ∃ i : Instr, i.wf = true ∧ i.parts = p := by
  simp only [wellFormedParts, List.mem_append, List.mem_map]
  constructor
  · rintro (⟨op, hop, rfl⟩ | hp)
    · obtain ⟨i, hi⟩ := mem_controlOps.1 hop
      exact ⟨i, Op.wf_control hi, Op.parts_control hi⟩
    · obtain ⟨op, s⟩ := p
      obtain ⟨hop, hs⟩ := List.pair_mem_product.1 hp
      obtain ⟨⟨f, n⟩, hfn, rfl⟩ := List.mem_map.1 hs
      obtain ⟨k, hk⟩ := mem_familyOps.1 hop
      obtain ⟨hn, hheld⟩ := mem_familyShapes.1 hfn
      exact ⟨k f n, (Op.wf_family hk f n).trans hn, by rw [Op.parts_family hk, hheld]⟩
  · rintro ⟨i, hwf, rfl⟩
    obtain ⟨op, hi | ⟨k, f, n, hk, rfl⟩⟩ := i.exists_op
    · exact .inl ⟨op, mem_controlOps.2 ⟨i, hi⟩, (Op.parts_control hi).symm⟩
    · right
      rw [Op.wf_family hk, ← Fam.admits_heldLanes] at hwf
      rw [Op.parts_family hk]
      exact List.pair_mem_product.2 ⟨mem_familyOps.2 ⟨k, hk⟩,
        List.mem_map_of_mem (mem_familyShapes.2 ⟨hwf, f.heldLanes_heldLanes n⟩)⟩

theorem familyShapes_nodup : familyShapes.Nodup :=
  (List.Nodup.product (by decide) (by decide)).filter _

theorem wellFormedParts_nodup : wellFormedParts.Nodup := by
  refine List.Nodup.append (.map (Prod.mk_left_injective none) (by decide))
    (.product (by decide) (familyShapes_nodup.map (Option.some_injective _))) ?_
  rintro ⟨op, s⟩ hcontrol hfamily
  obtain ⟨o, -, ho⟩ := List.mem_map.1 hcontrol
  obtain ⟨-, hs⟩ := List.pair_mem_product.1 hfamily
  obtain ⟨fn, -, hfn⟩ := List.mem_map.1 hs
  exact Option.some_ne_none fn (hfn.trans (congrArg Prod.snd ho).symm)

theorem wellFormedParts_length : wellFormedParts.length = 468 := by
  have hshapes : familyShapes.length = 93 := by decide
  simp [wellFormedParts, hshapes, controlOps, familyOps]

theorem mem_map_wordOfParts {w : Word} : w ∈ wellFormedParts.map wordOfParts ↔ ∃ i, decode w = .ok i := by
  simp only [List.mem_map, mem_wellFormedParts, decode_eq_ok_iff, encode_eq_wordOfParts]
  constructor
  · rintro ⟨_, ⟨i, hwf, rfl⟩, rfl⟩
    exact ⟨i, hwf, rfl⟩
  · rintro ⟨i, hwf, rfl⟩
    exact ⟨i.parts, ⟨i, hwf, rfl⟩, rfl⟩

/-- No two well-formed commands have one word, since the word decodes to each of them. -/
theorem map_wordOfParts_nodup : (wellFormedParts.map wordOfParts).Nodup := by
  refine wellFormedParts_nodup.map_on fun p hp q hq hword => ?_
  obtain ⟨i, hi, rfl⟩ := mem_wellFormedParts.1 hp
  obtain ⟨j, hj, rfl⟩ := mem_wellFormedParts.1 hq
  have hdecode : decode (encode i) = .ok j := decode_eq_ok_iff.2 ⟨hj, hword.symm⟩
  rw [decode_eq_ok_iff.2 ⟨hi, rfl⟩] at hdecode
  rw [Except.ok.inj hdecode]

/-- Settles O7: R95 read off the decoder's tables, and the words of the well-formed commands' parts. -/
theorem wellFormedWordsAreThoseOfTheFields : Obligations.WellFormedWordsAreThoseOfTheFields := by
  refine ⟨fun w => ?_, wellFormedParts.map wordOfParts, map_wordOfParts_nodup,
    by rw [List.length_map, wellFormedParts_length], fun w => mem_map_wordOfParts⟩
  have hzero : fieldZero w = 0 ↔ w.toNat % 2 ^ 17 = 0 := by
    rw [← fieldZero_toNat, ← BitVec.toNat_inj]
    rfl
  simp only [exists_decode_eq_ok_iff, commandFields_iff, LnAdmitted, hzero, fieldOp_toNat, fieldFam_toNat, fieldLn_toNat]
  exact ⟨fun ⟨⟨hop, h⟩, hz⟩ => ⟨hop, hz, h⟩, fun ⟨hop, hz, h⟩ => ⟨⟨hop, h⟩, hz⟩⟩

/-- Settles O4: each of the fixed words runs through the decoder. -/
theorem specWordsDecodeToTheirCommands : Obligations.SpecWordsDecodeToTheirCommands := by
  refine ⟨?_, rfl, rfl, rfl, rfl⟩
  decide

end Sys2Proof
end

section
/-! O54 to O57: the lane-vector datapath (40_lane_vector.md R120 to R141). An operation acts on every lane by itself, so
each has one rule that names lane j of its result and one that names its lane count (R145); what remains of a statement is
the integer, or the bits, of a single lane. -/

namespace Sys2Proof.Machine

/-! ## Lane j of a result, and its lane count (40_lane_vector.md R145) -/

theorem zipWith_lane {α β γ : Type} {op : α → β → γ} {a : List α} {b : List β} {j : Nat} {x : α} {y : β}
    (hx : a[j]? = some x) (hy : b[j]? = some y) : (List.zipWith op a b)[j]? = some (op x y) :=
  List.getElem?_zipWith_eq_some.2 ⟨x, y, hx, hy, rfl⟩

theorem map_lane {α β : Type} {op : α → β} {a : List α} {j : Nat} {x : α} (hx : a[j]? = some x) :
    (a.map op)[j]? = some (op x) := by
  rw [List.getElem?_map, hx, Option.map_some]

theorem zipWith_length_eq {α β γ : Type} (op : α → β → γ) {a : List α} {b : List β} (h : a.length = b.length) :
    (List.zipWith op a b).length = b.length := by
  rw [List.length_zipWith, h, Nat.min_self]

section
variable {W : Nat} {a b : Vec W} {j : Nat} {x y : BitVec W}

theorem vadd_lane (hx : a[j]? = some x) (hy : b[j]? = some y) : (vadd a b)[j]? = some (x + y) := zipWith_lane hx hy
theorem vsub_lane (hx : a[j]? = some x) (hy : b[j]? = some y) : (vsub a b)[j]? = some (x - y) := zipWith_lane hx hy
theorem vmul_lane (hx : a[j]? = some x) (hy : b[j]? = some y) : (vmul a b)[j]? = some (x * y) := zipWith_lane hx hy
theorem vxor_lane (hx : a[j]? = some x) (hy : b[j]? = some y) : (vxor a b)[j]? = some (x ^^^ y) := zipWith_lane hx hy
theorem vand_lane (hx : a[j]? = some x) (hy : b[j]? = some y) : (vand a b)[j]? = some (x &&& y) := zipWith_lane hx hy
theorem vor_lane (hx : a[j]? = some x) (hy : b[j]? = some y) : (vor a b)[j]? = some (x ||| y) := zipWith_lane hx hy
theorem vnot_lane (hx : a[j]? = some x) : (vnot a)[j]? = some (~~~x) := map_lane hx
theorem vshl_lane (hx : a[j]? = some x) {k : Nat} (h : k < W) : (vshl a k h)[j]? = some (x <<< k) := map_lane hx
theorem vshr_lane (hx : a[j]? = some x) {k : Nat} (h : k < W) : (vshr a k h)[j]? = some (x >>> k) := map_lane hx
theorem vrotl_lane (hx : a[j]? = some x) (k : Nat) : (vrotl a k)[j]? = some (rotl x k) := map_lane hx
theorem vrotr_lane (hx : a[j]? = some x) (k : Nat) : (vrotr a k)[j]? = some (rotr x k) := map_lane hx
theorem vrotrv_lane {V : Nat} {r : Vec V} {d : BitVec V} (hx : a[j]? = some x) (hd : r[j]? = some d) :
    (vrotrv a r)[j]? = some (rotr x (d.toNat % W)) := zipWith_lane hx hd
theorem vsplat_lane {V : Nat} (hx : a[j]? = some x) (c : BitVec V) : (vsplat c a)[j]? = some c := map_lane hx
theorem vtrunc_lane (hx : a[j]? = some x) (M : Nat) : (vtrunc M a)[j]? = some (x.setWidth M) := map_lane hx
theorem vzext_lane (hx : a[j]? = some x) (M : Nat) : (vzext M a)[j]? = some (x.setWidth M) := map_lane hx
theorem vwmul32_lane {a b : Vec 64} {x y : BitVec 64} (hx : a[j]? = some x) (hy : b[j]? = some y) :
    (vwmul32 a b)[j]? = some (wmul32 x y) := zipWith_lane hx hy

theorem veq_lane (hx : a[j]? = some x) (hy : b[j]? = some y) : (veq a b)[j]? = some (decide (x = y)) :=
  zipWith_lane hx hy
theorem vne_lane (hx : a[j]? = some x) (hy : b[j]? = some y) : (vne a b)[j]? = some (decide (x ≠ y)) :=
  zipWith_lane hx hy
theorem vlt_lane (hx : a[j]? = some x) (hy : b[j]? = some y) : (vlt a b)[j]? = some (decide (x.toNat < y.toNat)) :=
  zipWith_lane hx hy
theorem vle_lane (hx : a[j]? = some x) (hy : b[j]? = some y) : (vle a b)[j]? = some (decide (x.toNat ≤ y.toNat)) :=
  zipWith_lane hx hy
theorem vselect_lane {m : Mask} {c : Bool} (hc : m[j]? = some c) (hx : a[j]? = some x) (hy : b[j]? = some y) :
    (vselect m a b)[j]? = some (if c then x else y) :=
  zipWith_lane hc (zipWith_lane hx hy)

theorem vor_length : (vor a b).length = min a.length b.length := List.length_zipWith
theorem vnot_length : (vnot a).length = a.length := List.length_map _
theorem vselect_length {m : Mask} (hm : m.length = b.length) (h : a.length = b.length) :
    (vselect m a b).length = b.length := by
  have hzip : (a.zip b).length = b.length := zipWith_length_eq _ h
  exact (zipWith_length_eq _ (hm.trans hzip.symm)).trans hzip

end

section
variable {m m' : Mask} {j : Nat} {c c' : Bool}

theorem maskAnd_lane (hc : m[j]? = some c) (hc' : m'[j]? = some c') : (maskAnd m m')[j]? = some (c && c') :=
  zipWith_lane hc hc'
theorem maskOr_lane (hc : m[j]? = some c) (hc' : m'[j]? = some c') : (maskOr m m')[j]? = some (c || c') :=
  zipWith_lane hc hc'
theorem maskNot_lane (hc : m[j]? = some c) : (maskNot m)[j]? = some (!c) := map_lane hc
theorem maskNot_length : (maskNot m).length = m.length := List.length_map _

end

/-! ## The integers of one lane (40_lane_vector.md R120 to R128) -/

/-- The borrow of a subtraction is visible as one 2^W (40_lane_vector.md R121). -/
theorem sub_toNat_eq_ite {W : Nat} (x y : BitVec W) :
    (x - y).toNat = if y.toNat ≤ x.toNat then x.toNat - y.toNat else 2 ^ W + x.toNat - y.toNat := by
  have hx := x.isLt
  have hy := y.isLt
  rw [BitVec.toNat_sub]
  split
  · next h =>
    rw [show 2 ^ W - y.toNat + x.toNat = x.toNat - y.toNat + 2 ^ W by omega, Nat.add_mod_right,
      Nat.mod_eq_of_lt (by omega)]
  · next h =>
    rw [Nat.mod_eq_of_lt (by omega)]
    omega

theorem shiftLeft_toNat_eq_mul {W : Nat} (x : BitVec W) (k : Nat) : (x <<< k).toNat = x.toNat * 2 ^ k % 2 ^ W := by
  rw [BitVec.toNat_shiftLeft, Nat.shiftLeft_eq]

theorem ushiftRight_toNat_eq_div {W : Nat} (x : BitVec W) (k : Nat) : (x >>> k).toNat = x.toNat / 2 ^ k := by
  rw [BitVec.toNat_ushiftRight, Nat.shiftRight_eq_div_pow]

/-- Settles O54: the lane counts, then the integer or the bits of the lane each rule names. -/
theorem datapathArithmeticIsLaneByLane : Obligations.DatapathArithmeticIsLaneByLane := by
  constructor
  · intro W a b h
    have hmin : min a.length b.length = a.length := by rw [h, Nat.min_self]
    exact ⟨(vadd_length a b).trans hmin, (vsub_length a b).trans hmin, (vmul_length a b).trans hmin,
      (vxor_length a b).trans hmin, (vand_length a b).trans hmin, vor_length.trans hmin, vnot_length,
      fun k hk => ⟨vshl_length a k hk, vshr_length a k hk⟩⟩
  · intro W a b j x y hx hy
    exact ⟨⟨_, vadd_lane hx hy, BitVec.toNat_add x y⟩, ⟨_, vsub_lane hx hy, sub_toNat_eq_ite x y⟩,
      ⟨_, vmul_lane hx hy, BitVec.toNat_mul x y⟩, ⟨_, vxor_lane hx hy, fun _ => BitVec.getLsbD_xor⟩,
      ⟨_, vand_lane hx hy, fun _ => BitVec.getLsbD_and⟩, ⟨_, vor_lane hx hy, fun _ => BitVec.getLsbD_or⟩,
      ⟨_, vnot_lane hx, BitVec.toNat_not⟩,
      fun k hk =>
        ⟨⟨_, vshl_lane hx hk, shiftLeft_toNat_eq_mul x k⟩, ⟨_, vshr_lane hx hk, ushiftRight_toNat_eq_div x k⟩⟩⟩

/-! ## The bits of a rotate (40_lane_vector.md R129, R130) -/

/-- The bit that a rotate by k pairs with bit i < W: the sum wraps at most once when k is reduced first. -/
theorem rotate_index {W i : Nat} (k : Nat) (hi : i < W) :
    (i + k) % W = if i + k % W < W then i + k % W else i + k % W - W := by
  have hk : k % W < W := Nat.mod_lt k (by omega)
  rw [← Nat.add_mod_mod]
  split
  · next h => exact Nat.mod_eq_of_lt h
  · next h => rw [Nat.mod_eq_sub_mod (by omega), Nat.mod_eq_of_lt (by omega)]

theorem rotl_getLsbD {W i : Nat} (x : BitVec W) (k : Nat) (hi : i < W) :
    (rotl x k).getLsbD ((i + k) % W) = x.getLsbD i := by
  have hk : k % W < W := Nat.mod_lt k (by omega)
  rw [rotl_eq_rotateLeft, BitVec.getLsbD_rotateLeft, rotate_index k hi]
  by_cases h : i + k % W < W
  · simp [h]
  · have hwrapped : i + k % W - W < k % W := by omega
    have hback : W - k % W + (i + k % W - W) = i := by omega
    simp [h, hwrapped, hback]

theorem rotr_getLsbD {W i : Nat} (x : BitVec W) (k : Nat) (hi : i < W) :
    (rotr x k).getLsbD i = x.getLsbD ((i + k) % W) := by
  have hk : k % W < W := Nat.mod_lt k (by omega)
  rw [rotr_eq_rotateRight, BitVec.getLsbD_rotateRight, rotate_index k hi]
  by_cases h : i + k % W < W
  · have hlow : i < W - k % W := by omega
    simp [h, hlow, Nat.add_comm]
  · have hhigh : ¬ i < W - k % W := by omega
    have hwrapped : i + k % W - W = i - (W - k % W) := by omega
    simp [h, hhigh, hi, hwrapped]

/-- Settles O55: a lane of a rotate is the lane rotated, and `rotrv` only reduces its amount first. -/
theorem rotatesMoveEveryBitOfALane : Obligations.RotatesMoveEveryBitOfALane := by
  constructor
  · intro W V k a r h
    exact ⟨vrotl_length a k, List.length_map _, (vrotrv_length a r).trans (by rw [h, Nat.min_self])⟩
  · intro W a j x hx
    refine ⟨fun k => ⟨_, vrotl_lane hx k, fun i hi => rotl_getLsbD x k hi⟩,
      fun k => ⟨_, vrotr_lane hx k, fun i hi => rotr_getLsbD x k hi⟩,
      fun V r d hd => ⟨_, vrotrv_lane hx hd, fun i hi => ?_⟩⟩
    rw [rotr_getLsbD x _ hi, Nat.add_mod_mod]

/-! ## Masks (40_lane_vector.md R132 to R136) -/

theorem maskAny_iff (m : Mask) : maskAny m = true ↔ ∃ j : Nat, m[j]? = some true := by
  simp [maskAny, List.mem_iff_getElem?]

theorem maskAll_iff (m : Mask) : maskAll m = true ↔ ∀ j < m.length, m[j]? = some true := by
  simp +contextual [maskAll, List.forall_mem_iff_getElem]

theorem maskAll_eq_not_maskAny_maskNot (m : Mask) : maskAll m = !maskAny (maskNot m) := by
  rw [maskAll, maskAny, maskNot, List.all_eq_not_any_not, List.any_map]
  rfl

/-- Settles O56: the compares lane by lane, then the reductions as quantifiers over the lanes. -/
theorem masksCompareSelectAndReduce : Obligations.MasksCompareSelectAndReduce := by
  refine ⟨?_, ?_, fun m => ⟨maskAny_iff m, maskAll_iff m, maskAll_eq_not_maskAny_maskNot m⟩, ?_⟩
  · intro W m m' a b h hm hm'
    have hmm : m.length = m'.length := hm.trans hm'.symm
    exact ⟨zipWith_length_eq _ h, zipWith_length_eq _ h, zipWith_length_eq _ h, zipWith_length_eq _ h,
      (zipWith_length_eq _ h.symm).trans h, (zipWith_length_eq _ h.symm).trans h, vselect_length hm h,
      (zipWith_length_eq _ hmm).trans hm', (zipWith_length_eq _ hmm).trans hm', maskNot_length.trans hm⟩
  · intro W a b j x y hx hy
    simp only [ne_eq, BitVec.toNat_inj]
    exact ⟨veq_lane hx hy, vne_lane hx hy, vlt_lane hx hy, vle_lane hx hy, vlt_lane hy hx, vle_lane hy hx,
      fun m c hc => vselect_lane hc hx hy⟩
  · intro m₁ m₂ j c₁ c₂ h₁ h₂
    exact ⟨maskAnd_lane h₁ h₂, maskOr_lane h₁ h₂, maskNot_lane h₁⟩

/-! ## The operations that change the shape (40_lane_vector.md R137 to R141) -/

/-- The product of two halves fits the lane, so nothing is cut off (40_lane_vector.md R140). -/
theorem wmul32_toNat (x y : BitVec 64) : (wmul32 x y).toNat = (x.toNat % 2 ^ 32) * (y.toNat % 2 ^ 32) := by
  have hx : x.toNat % 2 ^ 32 < 2 ^ 32 := Nat.mod_lt _ (by decide)
  have hy : y.toNat % 2 ^ 32 < 2 ^ 32 := Nat.mod_lt _ (by decide)
  have hfits : (x.toNat % 2 ^ 32) * (y.toNat % 2 ^ 32) < 2 ^ 64 := lt_of_lt_of_eq (Nat.mul_lt_mul'' hx hy) (by norm_num)
  have hext (z : BitVec 64) : ((z.setWidth 32).setWidth 64).toNat = z.toNat % 2 ^ 32 := by
    simp only [BitVec.toNat_setWidth]
    omega
  rw [wmul32, BitVec.toNat_mul, hext, hext, Nat.mod_eq_of_lt hfits]

theorem append64_toNat (h l : BitVec 64) : (h ++ l).toNat = h.toNat * 2 ^ 64 + l.toNat := by
  rw [BitVec.toNat_append, Nat.shiftLeft_eq, Nat.mul_comm, Nat.two_pow_add_eq_or_of_lt l.isLt]

theorem add64x2_toNat (a b : BitVec 128) :
    (add64x2 a b).toNat =
      (a.toNat / 2 ^ 64 + b.toNat / 2 ^ 64) % 2 ^ 64 * 2 ^ 64 + (a.toNat + b.toNat) % 2 ^ 64 := by
  have ha := a.isLt
  have hb := b.isLt
  rw [add64x2, append64_toNat]
  simp only [BitVec.toNat_add, BitVec.extractLsb'_toNat, Nat.shiftRight_eq_div_pow]
  omega

/-- Settles O57: a changed lane has the integer of its rule, and `add64x2` is read off its two halves. -/
theorem shapeChangingOperationsGiveTheirIntegers : Obligations.ShapeChangingOperationsGiveTheirIntegers := by
  refine ⟨fun W M a c => ⟨vsplat_length c a, vtrunc_length a M, vzext_length a M⟩, ?_, ?_, ?_, ?_⟩
  · intro a b h
    rw [vwmul32_length, h, Nat.min_self]
  · intro W M a c j x hx
    refine ⟨vsplat_lane hx c, fun _ => ⟨_, vtrunc_lane hx M, BitVec.toNat_setWidth M x⟩,
      fun hW => ⟨_, vzext_lane hx M, ?_⟩⟩
    exact BitVec.toNat_setWidth_of_le hW.le
  · exact fun a b j x y hx hy => ⟨_, vwmul32_lane hx hy, wmul32_toNat x y⟩
  · intro a b
    rw [add64x2_toNat]
    omega

end Sys2Proof.Machine
end

section
/-! O59 and O60: the S-boxes and the AES rounds (40_lane_vector.md R142 to R144, R147, R148). The product in GF(2^8) is
made of doublings of its second factor, so it commutes with multiplying that factor by 3; the powers of 3 are every byte
but 0, and on them a product adds exponents. The layers of a round are followed entry by entry. -/

namespace Sys2Proof.Machine

/-! ## Doubling in GF(2^8) (40_lane_vector.md R142 (3)) -/

theorem gf2_eq (x : Byte) : gf2 x = (x <<< 1) ^^^ (if x.getLsbD 7 then 0x1B else 0) := by
  have htop : x.getLsbD 7 = decide (0x80 ≤ x.toNat) := x.msb_eq_decide
  simp only [gf2, htop, decide_eq_true_eq]

theorem gf2_xor (x y : Byte) : gf2 (x ^^^ y) = gf2 x ^^^ gf2 y := by
  simp only [gf2_eq, BitVec.shiftLeft_xor_distrib, BitVec.getLsbD_xor]
  have hterm (p q : Bool) :
      (if (p ^^ q) = true then 0x1B else 0 : Byte) = (if p then 0x1B else 0) ^^^ (if q then 0x1B else 0) := by
    revert p q
    decide
  rw [hterm]
  ac_rfl

/-- One turn of the product's loop doubles the second factor. -/
theorem gfMulLoop_succ (n : Nat) (x y : Byte) :
    Ref.gfMulLoop (n + 1) x y = (if x.getLsbD 0 then y else 0) ^^^ Ref.gfMulLoop n (x >>> 1) (gf2 y) := by
  rw [gf2_eq]
  rfl

/-! ## Powers of 3 (40_lane_vector.md R147) -/

/-- `3·y`, that is `2·y + y`. -/
def gf3 (y : Byte) : Byte := gf2 y ^^^ y

theorem gf3_xor (x y : Byte) : gf3 (x ^^^ y) = gf3 x ^^^ gf3 y := by
  simp only [gf3, gf2_xor]
  ac_rfl

theorem gf2_gf3 (y : Byte) : gf2 (gf3 y) = gf3 (gf2 y) := gf2_xor _ _

theorem gfMulLoop_gf3 (n : Nat) (x y : Byte) : Ref.gfMulLoop n x (gf3 y) = gf3 (Ref.gfMulLoop n x y) := by
  induction n generalizing x y with
  | zero => simp [Ref.gfMulLoop, gf3, gf2]
  | succ n ih =>
    have hterm : (if x.getLsbD 0 then gf3 y else 0) = gf3 (if x.getLsbD 0 then y else 0) := by
      split
      · rfl
      · decide
    rw [gfMulLoop_succ, gfMulLoop_succ, gf3_xor, gf2_gf3, ih, hterm]

theorem gfMul_one (x : Byte) : Ref.gfMul x 1 = x := by
  revert x
  decide +kernel

/-- `3^k`. -/
def gfPow : Nat → Byte
  | 0 => 1
  | k + 1 => gf3 (gfPow k)

/-- A product of powers of 3 adds the exponents: the loop passes each factor 3 of the second on to its result. -/
theorem gfMul_gfPow (a b : Nat) : Ref.gfMul (gfPow a) (gfPow b) = gfPow (a + b) := by
  induction b with
  | zero => exact gfMul_one _
  | succ b ih => exact (gfMulLoop_gf3 8 _ _).trans (congrArg gf3 ih)

/-- The power 255 of 3 is 1, so that exponents count modulo 255. -/
theorem gfPow_periodic : Function.Periodic gfPow 255 := by
  intro k
  have horder : gfPow 255 = gfPow 0 := by decide +kernel
  rw [← gfMul_gfPow, horder, gfMul_gfPow, Nat.add_zero]

/-- The rows of the logarithms to the base 3, laid out as those of SBOX; the entry of 0 is not used. -/
def gfLogRows : List Nat :=
  [0x0000190132021ac64bc71b6833eedf03, 0x6404e00e348d81ef4c7108c8f8691cc1,
   0x7dc21db5f9b9276a4de4a6729ac90978, 0x652f8a05210fe12412f082453593da8e,
   0x968fdbbd36d0ce94135cd2f140468338, 0x66ddfd30bf068b62b325e29822889110,
   0x7e6e48c3a3b61e423a6b2854fa853dba, 0x2b790a159b9f5eca4ed4ace5f373a757,
   0xaf58a850f4ead6744faee9d5e7e6ade8, 0x2cd7757aeb160bf559cb5fb09ca951a0,
   0x7f0cf66f17c449ecd8431f2da4767bb7, 0xccbb3e5afb60b1863b52a16caa55299d,
   0x97b2879061bedcfcbc95cfcd373f5bd1, 0x5339843c41a26d47142a9e5d56f2d3ab,
   0x441192d923202e89b47cb8267799e3a5, 0x674aeddec531fe180d638c80c0f77007]

/-- The exponent k with `3^k = x`, for x other than 0 (`gfPow_gfLog`). -/
def gfLog (x : Byte) : Nat := (tableLookup gfLogRows x).toNat

/-- Every byte but 0 is a power of 3. -/
theorem gfPow_gfLog : ∀ x : Byte, x ≠ 0 → gfPow (gfLog x) = x := by decide +kernel

theorem gfSquares_gfPow (n k : Nat) : Ref.gfSquares n (gfPow k) = gfPow (2 ^ n * k) := by
  induction n generalizing k with
  | zero => rw [pow_zero, Nat.one_mul, Ref.gfSquares]
  | succ n ih => rw [Ref.gfSquares, gfMul_gfPow, ih, pow_succ, Nat.mul_assoc, Nat.two_mul]

theorem gfInv_gfPow (k : Nat) : Ref.gfInv (gfPow k) = gfPow (254 * k) := by
  simp only [Ref.gfInv, List.foldl_cons, List.foldl_nil, gfSquares_gfPow, gfMul_gfPow]
  congr 1
  omega

theorem gfInv_eq_gfPow {x : Byte} (hx : x ≠ 0) : Ref.gfInv x = gfPow (254 * gfLog x % 255) := by
  rw [gfPow_periodic.map_mod_nat, ← gfInv_gfPow, gfPow_gfLog x hx]

theorem gfMul_gfInv {x : Byte} (hx : x ≠ 0) : Ref.gfMul x (Ref.gfInv x) = 1 := by
  obtain ⟨k, rfl⟩ : ∃ k, gfPow k = x := ⟨_, gfPow_gfLog x hx⟩
  have hsum : k + 254 * k = k * 255 := by omega
  rw [gfInv_gfPow, gfMul_gfPow, hsum, ← gfPow_periodic.map_mod_nat, Nat.mul_mod_left]
  rfl

/-! ## The S-boxes (40_lane_vector.md R147) -/

theorem sbox_eq_affine_gfPow : ∀ x : Byte, x ≠ 0 → sbox x = Ref.affine (gfPow (254 * gfLog x % 255)) := by
  decide +kernel

theorem sbox_eq_affine_gfInv (x : Byte) : sbox x = Ref.affine (Ref.gfInv x) := by
  by_cases hx : x = 0
  · subst hx
    decide +kernel
  · rw [gfInv_eq_gfPow hx, sbox_eq_affine_gfPow x hx]

theorem invSbox_sbox : Function.LeftInverse invSbox sbox := by
  unfold Function.LeftInverse
  decide +kernel

/-- A left inverse on a finite type is a right inverse too. -/
theorem sbox_invSbox : Function.RightInverse invSbox sbox :=
  invSbox_sbox.rightInverse_of_surjective (Finite.injective_iff_surjective.1 invSbox_sbox.injective)

/-- Settles O59: the table against the inverses as powers of 3, and the two tables against each other. -/
theorem theSboxIsTheAffineMapOfTheInverse : Obligations.TheSboxIsTheAffineMapOfTheInverse :=
  ⟨fun _ => gfMul_gfInv, by decide +kernel, sbox_eq_affine_gfInv, invSbox_sbox, sbox_invSbox⟩

/-! ## The factors of the mixes (40_lane_vector.md R142 (3), R144 (3)) -/

theorem gfMulLoop_zero (n : Nat) (y : Byte) : Ref.gfMulLoop n 0 y = 0 := by
  induction n generalizing y with
  | zero => rfl
  | succ n ih =>
    have hshift : (0 : Byte) >>> 1 = 0 := rfl
    rw [gfMulLoop_succ, hshift, ih]
    simp

/-- The product by a factor of four bits ends after four turns of the loop. -/
theorem gfMul_eq_ref (n : BitVec 4) (x : Byte) : gfMul n x = Ref.gfMul (n.setWidth 8) x := by
  have hend : n.setWidth 8 >>> 1 >>> 1 >>> 1 >>> 1 = 0 := by
    revert n
    decide
  rw [Ref.gfMul, gfMulLoop_succ 7, gfMulLoop_succ 6, gfMulLoop_succ 5, gfMulLoop_succ 4, hend, gfMulLoop_zero]
  simp [gfMul, BitVec.xor_assoc]

theorem gfMul_one_left (x : Byte) : gfMul 1 x = x := by simp [gfMul]

/-! ## The layers of a round, entry by entry (40_lane_vector.md R148) -/

theorem entry_xor (v k : BitVec 128) (r c : Nat) : Ref.entry (v ^^^ k) r c = Ref.entry v r c ^^^ Ref.entry k r c :=
  BitVec.extractLsb'_xor

theorem blockBytes_getD {v : BitVec 128} {r c : Nat} (hr : r < 4) (hc : c < 4) :
    (blockBytes v).getD (r + 4 * c) 0 = Ref.entry v r c := by
  rw [blockBytes, List.getD_eq_getElem?_getD, laneImage_getElem? v (by omega)]
  rfl

theorem entry_bytesBlock {b : List Byte} (hb : b.length = 16) {r c : Nat} (hr : r < 4) (hc : c < 4) :
    Ref.entry (bytesBlock b) r c = b.getD (r + 4 * c) 0 := by
  rw [← blockBytes_getD hr hc, blockBytes, bytesBlock, laneImage_leWord b hb]

/-- A permutation of the columns of each row, followed by a substitution: entry (r, c) is the substituted entry of row r and
column `col c r`. -/
theorem permuted_substituted_getD {v : BitVec 128} {col : Nat → Nat → Nat} {sub : Byte → Byte} {r c : Nat} (hr : r < 4)
    (hc : c < 4) (hcol : col c r < 4) :
    (((List.range 16).map fun i => (blockBytes v).getD (i % 4 + 4 * col (i / 4) (i % 4)) 0).map sub).getD (r + 4 * c) 0 =
      sub (Ref.entry v r (col c r)) := by
  have hi : r + 4 * c < 16 := by omega
  have hmod : (r + 4 * c) % 4 = r := by omega
  have hdiv : (r + 4 * c) / 4 = c := by omega
  rw [List.map_map, List.getD_eq_getElem?_getD, List.getElem?_map, List.getElem?_range hi, Option.map_some,
    Option.getD_some, Function.comp_apply, hmod, hdiv, blockBytes_getD hr hcol]

theorem shiftRows_sbox_getD {v : BitVec 128} {r c : Nat} (hr : r < 4) (hc : c < 4) :
    ((shiftRows (blockBytes v)).map sbox).getD (r + 4 * c) 0 = sbox (Ref.entry v r ((c + r) % 4)) :=
  permuted_substituted_getD (col := fun c r => (c + r) % 4) hr hc (Nat.mod_lt _ (by decide))

theorem invShiftRows_invSbox_getD {v : BitVec 128} {r c : Nat} (hr : r < 4) (hc : c < 4) :
    ((invShiftRows (blockBytes v)).map invSbox).getD (r + 4 * c) 0 = invSbox (Ref.entry v r ((c + 4 - r) % 4)) :=
  permuted_substituted_getD (col := fun c r => (c + 4 - r) % 4) hr hc (Nat.mod_lt _ (by decide))

theorem shiftRows_length (b : List Byte) : (shiftRows b).length = 16 := by
  rw [shiftRows, List.length_map, List.length_range]

theorem mixWith_length (n0 n1 n2 n3 : BitVec 4) (b : List Byte) : (mixWith n0 n1 n2 n3 b).length = 16 := rfl

/-- The four entries of column c after a mix, `a r` being the entry of row r before it. -/
theorem mixWith_entries (n0 n1 n2 n3 : BitVec 4) {b : List Byte} {a : Nat → Byte} {c : Nat} (hc : c < 4)
    (ha : ∀ r < 4, b.getD (r + 4 * c) 0 = a r) :
    Ref.entry (bytesBlock (mixWith n0 n1 n2 n3 b)) 0 c = mixRow n0 n1 n2 n3 (a 0) (a 1) (a 2) (a 3) ∧
    Ref.entry (bytesBlock (mixWith n0 n1 n2 n3 b)) 1 c = mixRow n3 n0 n1 n2 (a 0) (a 1) (a 2) (a 3) ∧
    Ref.entry (bytesBlock (mixWith n0 n1 n2 n3 b)) 2 c = mixRow n2 n3 n0 n1 (a 0) (a 1) (a 2) (a 3) ∧
    Ref.entry (bytesBlock (mixWith n0 n1 n2 n3 b)) 3 c = mixRow n1 n2 n3 n0 (a 0) (a 1) (a 2) (a 3) := by
  have hentry {r : Nat} (hr : r < 4) := entry_bytesBlock (mixWith_length n0 n1 n2 n3 b) hr hc
  rw [hentry (by decide), hentry (by decide), hentry (by decide), hentry (by decide),
    ← ha 0 (by decide), ← ha 1 (by decide), ← ha 2 (by decide), ← ha 3 (by decide)]
  interval_cases c
  all_goals exact ⟨rfl, rfl, rfl, rfl⟩

/-! ## The rounds (40_lane_vector.md R142 to R144) -/

theorem entry_aesEncLast (v k : BitVec 128) {r c : Nat} (hr : r < 4) (hc : c < 4) :
    Ref.entry (aesEncLast v k) r c = sbox (Ref.entry v r ((c + r) % 4)) ^^^ Ref.entry k r c := by
  have hlen : ((shiftRows (blockBytes v)).map sbox).length = 16 := (List.length_map _).trans (shiftRows_length _)
  rw [aesEncLast, entry_xor, entry_bytesBlock hlen hr hc, shiftRows_sbox_getD hr hc]

/-- Settles O60: the layers of each round at the entries of column c. -/
theorem aesRoundsActOnTheEntriesOfTheBlock : Obligations.AesRoundsActOnTheEntriesOfTheBlock := by
  intro v k c hc
  refine ⟨⟨fun r hr => entry_aesEncLast v k hr hc, ?_⟩, ?_⟩
  · obtain ⟨h0, h1, h2, h3⟩ := mixWith_entries 2 3 1 1 hc fun r hr => shiftRows_sbox_getD (v := v) hr hc
    simp only [mixRow, gfMul_one_left] at h0 h1 h2 h3
    simp only [aesEnc, mixColumns, entry_xor, h0, h1, h2, h3, gfMul_eq_ref]
    exact ⟨rfl, rfl, rfl, rfl⟩
  · obtain ⟨h0, h1, h2, h3⟩ := mixWith_entries 14 11 13 9 hc fun r hr => invShiftRows_invSbox_getD (v := v) hr hc
    simp only [aesDec, invMixColumns, entry_xor, h0, h1, h2, h3, mixRow, gfMul_eq_ref]
    exact ⟨rfl, rfl, rfl, rfl⟩

end Sys2Proof.Machine
end

section
/-! O17 to O21 and O35: the xorshift, xoroshiro and xoshiro families (41_xorshift_xoshiro.md). The step of each acts on every
lane by itself (`LaneWise`): it moves the lane by the rule that Reference.lean writes for one lane. What GEN does follows at
once, and what it does to a zero lane is a question about that rule alone. -/

namespace Sys2Proof.Machine

/-! ## Steps that act on every lane by itself (40_lane_vector.md R145) -/

/-- On registers that hold the lanes `ls`, the step moves every lane by `next` and puts out `out` of it, lane 0 first. -/
def LaneWise {L : Type} {W : Nat} (regs : List L → List LaneVec) (next : L → L) (out : L → BitVec W) (step : StepFn) :
    Prop :=
  ∀ (i : Inst) (ls : List L), i.S = regs ls → step i = (i.put (regs (ls.map next)), image (ls.map out))

/-- GEN with its checks passed, for a family whose step acts on every lane by itself (47_control.md R364). -/
theorem exec_gen_of_laneWise {L : Type} {W : Nat} {regs : List L → List LaneVec} {next : L → L} {out : L → BitVec W}
    {f : Fam} {n : Lanes} {s : State} {ls : List L} (hr : Ready s f n)
    (hstep : LaneWise regs next out (stepOf s.par f)) (hS : s.inst.S = regs ls) :
    exec (Instr.gen f n) s = .next { s with
      inst := { s.inst with S := regs (ls.map next) }
      out := s.out ++ image (ls.map out) } := by
  obtain ⟨hadm, herr, hvalid, hcfg⟩ := hr
  rw [exec_gen, State.genWith_ok herr ((wf_gen f n).trans hadm) hvalid hcfg, hstep s.inst ls hS]
  rfl

/-! ## The registers, word by word (00_scope.md R11) -/

theorem pair64_map {α : Type} (g : α → Ref.Two 64) (ls : List α) :
    pair64 (ls.map g) = [.u64 (ls.map fun l => (g l).a), .u64 (ls.map fun l => (g l).b)] := by
  simp only [pair64, List.map_map, Function.comp_def]

theorem quad32_map {α : Type} (g : α → Ref.Four 32) (ls : List α) :
    quad32 (ls.map g) = [.u32 (ls.map fun l => (g l).a), .u32 (ls.map fun l => (g l).b), .u32 (ls.map fun l => (g l).c),
      .u32 (ls.map fun l => (g l).d)] := by
  simp only [quad32, List.map_map, Function.comp_def]

theorem quad64_map {α : Type} (g : α → Ref.Four 64) (ls : List α) :
    quad64 (ls.map g) = [.u64 (ls.map fun l => (g l).a), .u64 (ls.map fun l => (g l).b), .u64 (ls.map fun l => (g l).c),
      .u64 (ls.map fun l => (g l).d)] := by
  simp only [quad64, List.map_map, Function.comp_def]

section
variable {i : Inst}

theorem Inst.s32_one {xs : Vec 32} (h : i.S = [.u32 xs]) : i.s32 0 = xs := by
  rw [Inst.s32, h]; rfl

theorem Inst.s64_pair64 {ls : List (Ref.Two 64)} (h : i.S = pair64 ls) :
    i.s64 0 = ls.map (·.a) ∧ i.s64 1 = ls.map (·.b) := by
  simp only [Inst.s64, h]
  exact ⟨rfl, rfl⟩

theorem Inst.s32_quad32 {ls : List (Ref.Four 32)} (h : i.S = quad32 ls) :
    i.s32 0 = ls.map (·.a) ∧ i.s32 1 = ls.map (·.b) ∧ i.s32 2 = ls.map (·.c) ∧ i.s32 3 = ls.map (·.d) := by
  simp only [Inst.s32, h]
  exact ⟨rfl, rfl, rfl, rfl⟩

theorem Inst.s64_quad64 {ls : List (Ref.Four 64)} (h : i.S = quad64 ls) :
    i.s64 0 = ls.map (·.a) ∧ i.s64 1 = ls.map (·.b) ∧ i.s64 2 = ls.map (·.c) ∧ i.s64 3 = ls.map (·.d) := by
  simp only [Inst.s64, h]
  exact ⟨rfl, rfl, rfl, rfl⟩

theorem Inst.s64_eight64 {ls : List (Ref.Eight 64)} (h : i.S = eight64 ls) :
    (List.range 8).map i.s64 = [ls.map (·.a), ls.map (·.b), ls.map (·.c), ls.map (·.d),
      ls.map (·.e), ls.map (·.f), ls.map (·.g), ls.map (·.h)] := by
  have hs : i.s64 = fun k => ((eight64 ls)[k]?.map LaneVec.as64).getD [] := by funext k; rw [Inst.s64, h]
  rw [hs]
  rfl

end

/-! ## Registers of a shape, lane by lane (10_state.md R22) -/

/-- A vector of N lanes, read off lane by lane. -/
theorem map_range_getD {W N : Nat} {x : Vec W} (h : x.length = N) : ((List.range N).map fun j => x.getD j 0) = x := by
  apply List.ext_getElem
  · simp [h]
  · intro j _ hj
    simp [hj]

/-- One register of N 32-bit lanes. -/
theorem shaped_one32 {N : Nat} {S : List LaneVec} (h : S.length = 1 ∧ ∀ w ∈ S, w.Shaped 32 N) :
    ∃ xs : Vec 32, S = [.u32 xs] := by
  obtain ⟨hK, hs⟩ := h
  obtain ⟨vs, rfl, -⟩ := shaped32 hs
  match vs, hK with
  | [xs], _ => exact ⟨xs, rfl⟩

/-- Eight registers of N 64-bit lanes, lane by lane. -/
theorem shaped_eight64 {N : Nat} {S : List LaneVec} (h : S.length = 8 ∧ ∀ w ∈ S, w.Shaped 64 N) :
    ∃ ls : List (Ref.Eight 64), S = eight64 ls := by
  obtain ⟨hK, hs⟩ := h
  obtain ⟨vs, rfl, hv⟩ := shaped64 hs
  match vs, hK with
  | [a, b, c, d, e, f, g, h], _ =>
    refine ⟨(List.range N).map fun j => ⟨a.getD j 0, b.getD j 0, c.getD j 0, d.getD j 0, e.getD j 0, f.getD j 0,
      g.getD j 0, h.getD j 0⟩, ?_⟩
    simp only [List.forall_mem_cons] at hv
    obtain ⟨ha, hb, hc, hd, he, hf, hg, hh, -⟩ := hv
    simp only [eight64, List.map_map, Function.comp_def, map_range_getD, ha, hb, hc, hd, he, hf, hg, hh, List.map_cons,
      List.map_nil]

/-! ## The families' vector steps, lane by lane (41_xorshift_xoshiro.md R170 to R177) -/

theorem xorshift32_eq_map (xs : Vec 32) : xorshift32 xs = xs.map Ref.xorshift32 := by
  calc xorshift32 xs = xorshift32 (xs.map id) := by rw [List.map_id]
    _ = xs.map Ref.xorshift32 := by simp only [xorshift32, vxor_map, vshl_map, vshr_map]; rfl

theorem xorshift128_map (ls : List (Ref.Four 32)) :
    xorshift128 (ls.map (·.a)) (ls.map (·.d)) = ls.map Ref.xorshift128New := by
  simp only [xorshift128, vxor_map, vshl_map, vshr_map]; rfl

theorem xorshift128plusLiteral_map (ls : List (Ref.Two 64)) :
    xorshift128plusLiteral (ls.map (·.a)) (ls.map (·.b)) = ls.map fun l => (Ref.xorshift128plusLiteral l).b := by
  simp only [xorshift128plusLiteral, vxor_map, vshl_map, vshr_map]; rfl

theorem xorshift128plusPublished_map (ls : List (Ref.Two 64)) :
    xorshift128plusPublished (ls.map (·.a)) (ls.map (·.b)) = ls.map fun l => (Ref.xorshift128plusPublished l).b := by
  simp only [xorshift128plusPublished, vxor_map, vshl_map, vshr_map]; rfl

theorem xoroshiro128_map (ls : List (Ref.Two 64)) :
    xoroshiro128 (ls.map (·.a)) (ls.map (·.b)) =
      (ls.map fun l => (Ref.xoroshiro128 l).a, ls.map fun l => (Ref.xoroshiro128 l).b) := by
  simp only [xoroshiro128, vxor_map, vshl_map, vrotl_map]; rfl

/-- The assignments in order, each reading what the earlier ones left, give the words that the rule has in terms of the
old ones. A word xored with one that is a xor already is bracketed the other way there, hence the associativity. -/
theorem xoshiro4_map {W : Nat} (A B : Nat) (hA : A < W) (ls : List (Ref.Four W)) :
    xoshiro4 A B hA (ls.map (·.a)) (ls.map (·.b)) (ls.map (·.c)) (ls.map (·.d)) =
      (ls.map fun l => (Ref.xoshiro4 A B l).a, ls.map fun l => (Ref.xoshiro4 A B l).b,
        ls.map fun l => (Ref.xoshiro4 A B l).c, ls.map fun l => (Ref.xoshiro4 A B l).d) := by
  simp only [xoshiro4, Ref.xoshiro4, vxor_map, vshl_map, vrotl_map, BitVec.xor_assoc]

@[inherit_doc xoshiro4_map]
theorem xoshiro8_map (ls : List (Ref.Eight 64)) :
    (xoshiro8 [ls.map (·.a), ls.map (·.b), ls.map (·.c), ls.map (·.d), ls.map (·.e), ls.map (·.f), ls.map (·.g),
      ls.map (·.h)]).map .u64 = eight64 (ls.map Ref.xoshiro8) := by
  simp only [xoshiro8, eight64, Ref.xoshiro8, vxor_map, vshl_map, vrotl_map, List.map_cons, List.map_nil, List.map_map,
    Function.comp_def, BitVec.xor_assoc]

/-! ## The families' steps, lane by lane -/

theorem stepXorshift32_laneWise :
    LaneWise (fun xs : Vec 32 => [.u32 xs]) Ref.xorshift32 Ref.xorshift32 stepXorshift32 := by
  intro i xs h
  rw [stepXorshift32, Inst.s32_one h, xorshift32_eq_map]

theorem stepXorshift128_laneWise : LaneWise quad32 Ref.xorshift128 Ref.xorshift128New stepXorshift128 := by
  intro i ls h
  obtain ⟨ha, hb, hc, hd⟩ := Inst.s32_quad32 h
  rw [stepXorshift128, ha, hb, hc, hd, xorshift128_map, quad32_map]
  rfl

theorem stepXorshift128plus_laneWise (p : Params) :
    LaneWise pair64 (if p.xorshift128plusPublished then Ref.xorshift128plusPublished else Ref.xorshift128plusLiteral)
      (fun l => l.a + l.b) (stepXorshift128plus p) := by
  intro i ls h
  obtain ⟨ha, hb⟩ := Inst.s64_pair64 h
  rw [stepXorshift128plus, ha, hb, vadd_map, pair64_map, xorshift128plusPublished_map, xorshift128plusLiteral_map]
  split
  · rfl
  · rfl

theorem stepXoroshiro128ss_laneWise :
    LaneWise pair64 Ref.xoroshiro128 (fun l => Ref.starstar l.a) stepXoroshiro128ss := by
  intro i ls h
  obtain ⟨ha, hb⟩ := Inst.s64_pair64 h
  rw [stepXoroshiro128ss, ha, hb, xoroshiro128_map, starstar_map, pair64_map]
  rfl

theorem stepXoshiro128ss_laneWise :
    LaneWise quad32 (Ref.xoshiro4 9 11) (fun l => Ref.starstar l.b) stepXoshiro128ss := by
  intro i ls h
  obtain ⟨ha, hb, hc, hd⟩ := Inst.s32_quad32 h
  rw [stepXoshiro128ss, ha, hb, hc, hd, xoshiro4_map, starstar_map, quad32_map]
  rfl

theorem stepXoshiro256ss_laneWise :
    LaneWise quad64 (Ref.xoshiro4 17 45) (fun l => Ref.starstar l.b) stepXoshiro256ss := by
  intro i ls h
  obtain ⟨ha, hb, hc, hd⟩ := Inst.s64_quad64 h
  rw [stepXoshiro256ss, ha, hb, hc, hd, xoshiro4_map, starstar_map, quad64_map]
  rfl

theorem stepXoshiro512ss_laneWise :
    LaneWise eight64 Ref.xoshiro8 (fun l => Ref.starstar l.b) stepXoshiro512ss := by
  intro i ls h
  have hb : i.s64 1 = ls.map (·.b) := by rw [Inst.s64, h]; rfl
  rw [stepXoshiro512ss, Inst.s64_eight64 h, hb, xoshiro8_map, starstar_map]
  rfl

/-! ## GEN of these families -/

/-- Settles O17. -/
theorem genXorshift32And128StepEveryLane : Obligations.GenXorshift32And128StepEveryLane :=
  ⟨fun _ _ _ hr hS => (exec_gen_of_laneWise hr stepXorshift32_laneWise hS :),
    fun _ _ _ hr hS => exec_gen_of_laneWise hr stepXorshift128_laneWise hS⟩

/-- Settles O18, under both settings of the parameter. -/
theorem genXorshift128plusStepsEveryLane : Obligations.GenXorshift128plusStepsEveryLane :=
  ⟨rfl, fun _ s _ hr hS => exec_gen_of_laneWise hr (stepXorshift128plus_laneWise s.par) hS⟩

/-- Settles O19. -/
theorem genXoroshiro128ssStepsEveryLane : Obligations.GenXoroshiro128ssStepsEveryLane :=
  fun _ _ _ hr hS => exec_gen_of_laneWise hr stepXoroshiro128ss_laneWise hS

/-- Settles O20. -/
theorem genXoshiro128ssAnd256ssStepEveryLane : Obligations.GenXoshiro128ssAnd256ssStepEveryLane :=
  ⟨fun _ _ _ hr hS => exec_gen_of_laneWise hr stepXoshiro128ss_laneWise hS,
    fun _ _ _ hr hS => exec_gen_of_laneWise hr stepXoshiro256ss_laneWise hS⟩

/-- Settles O21. -/
theorem genXoshiro512ssStepsEveryLane : Obligations.GenXoshiro512ssStepsEveryLane :=
  fun _ _ _ hr hS => exec_gen_of_laneWise hr stepXoshiro512ss_laneWise hS

/-! ## Zero words: no word but 0 is its own shift, or has a rotate that is 0 -/

section
variable {W k : Nat} {x : BitVec W}

theorem xor_shiftLeft_eq_zero (hk : 0 < k) : x ^^^ (x <<< k) = 0 ↔ x = 0 := by
  refine ⟨fun h => ?_, fun h => by simp [h]⟩
  have hfix : x = x <<< k := BitVec.xor_eq_zero_iff.1 h
  have hbit (i : Nat) : x.getLsbD i = false := by
    induction i using Nat.strong_induction_on with
    | _ i ih =>
      rw [hfix, BitVec.getLsbD_shiftLeft]
      by_cases hi : i < k
      · simp [hi]
      · simp [ih (i - k) (by omega)]
  exact BitVec.eq_of_getLsbD_eq fun i _ => (hbit i).trans BitVec.getLsbD_zero.symm

theorem xor_ushiftRight_eq_zero (hk : 0 < k) : x ^^^ (x >>> k) = 0 ↔ x = 0 := by
  refine ⟨fun h => ?_, fun h => by simp [h]⟩
  have hfix : x.toNat = x.toNat / 2 ^ k := by
    rw [← ushiftRight_toNat_eq_div, ← BitVec.xor_eq_zero_iff.1 h]
  by_contra hx
  have hpos : 0 < x.toNat := Nat.pos_of_ne_zero fun h0 => hx (BitVec.eq_of_toNat_eq h0)
  exact absurd hfix (Nat.div_lt_self hpos (Nat.one_lt_two_pow hk.ne')).ne'

theorem rotateLeft_eq_zero : x.rotateLeft k = 0 ↔ x = 0 := by
  rw [← rotl_eq_rotateLeft]
  refine ⟨fun h => BitVec.eq_of_getLsbD_eq fun i hi => ?_, fun h => by simp [h, rotl]⟩
  rw [← rotl_getLsbD x k hi, h]
  exact BitVec.getLsbD_zero.trans BitVec.getLsbD_zero.symm

end

/-! ## Zero lanes, by the rules on one lane (41_xorshift_xoshiro.md R178) -/

theorem xorshift32_eq_zero (x : BitVec 32) : Ref.xorshift32 x = 0 ↔ x = 0 := by
  rw [Ref.xorshift32, xor_shiftLeft_eq_zero (by decide), xor_ushiftRight_eq_zero (by decide),
    xor_shiftLeft_eq_zero (by decide)]

/-- With w = 0 the new word is `t ^ (t >> 8)` for `t = x ^ (x << 11)`. -/
theorem xorshift128_eq_zero (l : Ref.Four 32) : Ref.xorshift128 l = ⟨0, 0, 0, 0⟩ ↔ l = ⟨0, 0, 0, 0⟩ := by
  obtain ⟨x, y, z, w⟩ := l
  have hnew : Ref.xorshift128New ⟨x, 0, 0, 0⟩ = 0 ↔ x = 0 := by
    have ht := (xor_ushiftRight_eq_zero (x := x ^^^ (x <<< 11)) (k := 8) (by decide)).trans
      (xor_shiftLeft_eq_zero (by decide))
    simpa [Ref.xorshift128New] using ht
  simp only [Ref.xorshift128, Ref.Four.mk.injEq]
  constructor
  · rintro ⟨rfl, rfl, rfl, h⟩
    exact ⟨hnew.1 h, rfl, rfl, rfl⟩
  · rintro ⟨rfl, rfl, rfl, rfl⟩
    exact ⟨rfl, rfl, rfl, hnew.2 rfl⟩

/-- With b = 0 the new word is `a ^ (a >> 5)`. -/
theorem xorshift128plusLiteral_eq_zero (l : Ref.Two 64) : Ref.xorshift128plusLiteral l = ⟨0, 0⟩ ↔ l = ⟨0, 0⟩ := by
  obtain ⟨a, b⟩ := l
  have hnew : (Ref.xorshift128plusLiteral ⟨a, 0⟩).b = 0 ↔ a = 0 := by
    simpa [Ref.xorshift128plusLiteral] using xor_ushiftRight_eq_zero (x := a) (k := 5) (by decide)
  constructor
  · intro h
    obtain rfl : b = 0 := congrArg Ref.Two.a h
    rw [hnew.1 (congrArg Ref.Two.b h)]
  · rintro ⟨⟩
    rfl

/-- With b = 0 the new word is `u ^ (u >> 18)` for `u = a ^ (a << 23)`. -/
theorem xorshift128plusPublished_eq_zero (l : Ref.Two 64) : Ref.xorshift128plusPublished l = ⟨0, 0⟩ ↔ l = ⟨0, 0⟩ := by
  obtain ⟨a, b⟩ := l
  have hnew : (Ref.xorshift128plusPublished ⟨a, 0⟩).b = 0 ↔ a = 0 := by
    have hu := (xor_ushiftRight_eq_zero (x := a ^^^ (a <<< 23)) (k := 18) (by decide)).trans
      (xor_shiftLeft_eq_zero (by decide))
    simpa [Ref.xorshift128plusPublished] using hu
  constructor
  · intro h
    obtain rfl : b = 0 := congrArg Ref.Two.a h
    rw [hnew.1 (congrArg Ref.Two.b h)]
  · rintro ⟨⟩
    rfl

/-- The second new word is 0 where a = b, and the first one is then `rotl(a, 24)`. -/
theorem xoroshiro128_eq_zero (l : Ref.Two 64) : Ref.xoroshiro128 l = ⟨0, 0⟩ ↔ l = ⟨0, 0⟩ := by
  obtain ⟨a, b⟩ := l
  simp only [Ref.xoroshiro128, Ref.Two.mk.injEq, rotateLeft_eq_zero]
  constructor
  · rintro ⟨ha, hab⟩
    rw [hab] at ha
    obtain rfl : a = 0 := (rotateLeft_eq_zero (k := 24)).1 (by simpa using ha)
    exact ⟨rfl, by simpa using hab⟩
  · rintro ⟨rfl, rfl⟩
    exact ⟨rfl, rfl⟩

/-- The new d is 0 where d = b, then the new a where a = 0, then the new b where b = c, and the new c is then
`b ^ (b << A)`. -/
theorem xoshiro4_eq_zero {W A B : Nat} (hA : 0 < A) (l : Ref.Four W) :
    Ref.xoshiro4 A B l = ⟨0, 0, 0, 0⟩ ↔ l = ⟨0, 0, 0, 0⟩ := by
  obtain ⟨a, b, c, d⟩ := l
  simp only [Ref.xoshiro4, Ref.Four.mk.injEq, rotateLeft_eq_zero]
  constructor
  · rintro ⟨ha, hb, hc, hd⟩
    obtain rfl : d = b := BitVec.xor_eq_zero_iff.1 hd
    obtain rfl : a = 0 := by simpa [BitVec.xor_assoc] using ha
    obtain rfl : d = c := by simpa using hb
    obtain rfl : d = 0 := (xor_shiftLeft_eq_zero hA).1 (by simpa using hc)
    exact ⟨rfl, rfl, rfl, rfl⟩
  · rintro ⟨rfl, rfl, rfl, rfl⟩
    simp

/-- The new c is 0 where c = a; the new b, f, e, d, h, g and a are then, in this order, one old word each. -/
theorem xoshiro8_eq_zero (l : Ref.Eight 64) :
    Ref.xoshiro8 l = ⟨0, 0, 0, 0, 0, 0, 0, 0⟩ ↔ l = ⟨0, 0, 0, 0, 0, 0, 0, 0⟩ := by
  obtain ⟨a, b, c, d, e, f, g, h⟩ := l
  simp only [Ref.xoshiro8, Ref.Eight.mk.injEq, rotateLeft_eq_zero]
  constructor
  · rintro ⟨ha, hb, hc, hd, he, hf, hg, hh⟩
    obtain rfl : c = a := BitVec.xor_eq_zero_iff.1 hc
    obtain rfl : b = 0 := by simpa [BitVec.xor_assoc] using hb
    obtain rfl : f = 0 := by simpa using hf
    obtain rfl : e = 0 := by simpa using he
    obtain rfl : d = 0 := by simpa using hd
    obtain rfl : h = 0 := by simpa using hh
    obtain rfl : g = 0 := by simpa using hg
    obtain rfl : c = 0 := by simpa using ha
    exact ⟨rfl, rfl, rfl, rfl, rfl, rfl, rfl, rfl⟩
  · rintro ⟨rfl, rfl, rfl, rfl, rfl, rfl, rfl, rfl⟩
    simp

theorem starstar_zero {W : Nat} : Ref.starstar (0 : BitVec W) = 0 := by
  have hrot : (0 : BitVec W).rotateLeft 7 = 0 := rotateLeft_eq_zero.2 rfl
  rw [Ref.starstar, zero_mul, hrot, zero_mul]

/-! ## Zero lanes in the registers (45_seeding.md R302) -/

/-- Registers given as columns of one list of lanes: the zero lanes are those that have 0 in every column. -/
theorem degenerate_columns {L : Type} {W j : Nat} (mk : Vec W → LaneVec) (hmk : ∀ v, (mk v).ZeroAt j ↔ v[j]? = some 0)
    (cols : List (L → BitVec W)) (hne : cols ≠ []) {zero : L} (hzero : ∀ l, (∀ col ∈ cols, col l = 0) ↔ l = zero)
    (ls : List L) : Degenerate (cols.map fun col => mk (ls.map col)) j ↔ ls[j]? = some zero := by
  obtain ⟨col, hcol⟩ := List.exists_mem_of_ne_nil cols hne
  simp only [Degenerate, List.forall_mem_map, hmk, List.getElem?_map]
  cases ls[j]? with
  | none => simpa using ⟨col, hcol⟩
  | some l => simpa using hzero l

theorem degenerate_one32 {xs : Vec 32} {j : Nat} : Degenerate [.u32 xs] j ↔ xs[j]? = some 0 :=
  List.forall_mem_singleton

theorem degenerate_pair64 {ls : List (Ref.Two 64)} {j : Nat} : Degenerate (pair64 ls) j ↔ ls[j]? = some ⟨0, 0⟩ :=
  degenerate_columns .u64 (fun _ => Iff.rfl) [Ref.Two.a, Ref.Two.b] nofun (fun l => by cases l; simp) ls

theorem degenerate_quad32 {ls : List (Ref.Four 32)} {j : Nat} :
    Degenerate (quad32 ls) j ↔ ls[j]? = some ⟨0, 0, 0, 0⟩ :=
  degenerate_columns .u32 (fun _ => Iff.rfl) [Ref.Four.a, Ref.Four.b, Ref.Four.c, Ref.Four.d] nofun
    (fun l => by cases l; simp) ls

theorem degenerate_quad64 {ls : List (Ref.Four 64)} {j : Nat} :
    Degenerate (quad64 ls) j ↔ ls[j]? = some ⟨0, 0, 0, 0⟩ :=
  degenerate_columns .u64 (fun _ => Iff.rfl) [Ref.Four.a, Ref.Four.b, Ref.Four.c, Ref.Four.d] nofun
    (fun l => by cases l; simp) ls

theorem degenerate_eight64 {ls : List (Ref.Eight 64)} {j : Nat} :
    Degenerate (eight64 ls) j ↔ ls[j]? = some ⟨0, 0, 0, 0, 0, 0, 0, 0⟩ :=
  degenerate_columns .u64 (fun _ => Iff.rfl) [Ref.Eight.a, Ref.Eight.b, Ref.Eight.c, Ref.Eight.d, Ref.Eight.e,
    Ref.Eight.f, Ref.Eight.g, Ref.Eight.h] nofun (fun l => by cases l; simp) ls

/-- The registers `regs ls` have a zero lane where `ls` has `zero`; the rule moves `zero`, and no other lane, onto `zero`
and puts out 0 of it (41_xorshift_xoshiro.md R178). -/
structure ZeroAbsorbing {L : Type} {W : Nat} (regs : List L → List LaneVec) (next : L → L) (out : L → BitVec W)
    (zero : L) : Prop where
  degenerate : ∀ {ls : List L} {j : Nat}, Degenerate (regs ls) j ↔ ls[j]? = some zero
  next_eq_zero : ∀ l : L, next l = zero ↔ l = zero
  out_zero : out zero = 0

/-- What GEN does to a zero lane, and to the others, follows from what the rule does to one lane. -/
theorem gen_zeroLane {L : Type} {W : Nat} {regs : List L → List LaneVec} {next : L → L} {out : L → BitVec W} {zero : L}
    {f : Fam} {n : Lanes} {s t : State} {ls : List L} (hr : Ready s f n)
    (hstep : LaneWise regs next out (stepOf s.par f)) (hz : ZeroAbsorbing regs next out zero) (hS : s.inst.S = regs ls)
    (hx : exec (Instr.gen f n) s = .next t) (j : Nat) :
    (Degenerate t.inst.S j ↔ Degenerate s.inst.S j) ∧
      (Degenerate s.inst.S j → ∀ b < W / 8, t.out[s.out.length + j * (W / 8) + b]? = some 0) := by
  rw [exec_gen_of_laneWise hr hstep hS] at hx
  cases hx
  rw [hS, hz.degenerate, hz.degenerate]
  refine ⟨?_, fun hj b hb => ?_⟩
  · simp [List.getElem?_map, hz.next_eq_zero]
  · have hout : (ls.map out)[j]? = some 0 := by rw [map_lane hj, hz.out_zero]
    rw [Nat.add_assoc, List.getElem?_append_right (Nat.le_add_right _ _), Nat.add_sub_cancel_left,
      image_getElem? _ hout hb]
    simp

/-! ## The seven families -/

theorem zeroAbsorbing_xorshift32 :
    ZeroAbsorbing (fun xs : Vec 32 => [.u32 xs]) Ref.xorshift32 Ref.xorshift32 0 :=
  ⟨degenerate_one32, xorshift32_eq_zero, rfl⟩

theorem zeroAbsorbing_xorshift128 : ZeroAbsorbing quad32 Ref.xorshift128 Ref.xorshift128New ⟨0, 0, 0, 0⟩ :=
  ⟨degenerate_quad32, xorshift128_eq_zero, rfl⟩

theorem zeroAbsorbing_xorshift128plus (published : Bool) :
    ZeroAbsorbing pair64 (if published then Ref.xorshift128plusPublished else Ref.xorshift128plusLiteral)
      (fun l => l.a + l.b) ⟨0, 0⟩ := by
  cases published with
  | false => exact ⟨degenerate_pair64, xorshift128plusLiteral_eq_zero, rfl⟩
  | true => exact ⟨degenerate_pair64, xorshift128plusPublished_eq_zero, rfl⟩

theorem zeroAbsorbing_xoroshiro128 : ZeroAbsorbing pair64 Ref.xoroshiro128 (fun l => Ref.starstar l.a) ⟨0, 0⟩ :=
  ⟨degenerate_pair64, xoroshiro128_eq_zero, starstar_zero⟩

theorem zeroAbsorbing_xoshiro128 :
    ZeroAbsorbing quad32 (Ref.xoshiro4 9 11) (fun l => Ref.starstar l.b) ⟨0, 0, 0, 0⟩ :=
  ⟨degenerate_quad32, xoshiro4_eq_zero (by decide), starstar_zero⟩

theorem zeroAbsorbing_xoshiro256 :
    ZeroAbsorbing quad64 (Ref.xoshiro4 17 45) (fun l => Ref.starstar l.b) ⟨0, 0, 0, 0⟩ :=
  ⟨degenerate_quad64, xoshiro4_eq_zero (by decide), starstar_zero⟩

theorem zeroAbsorbing_xoshiro512 :
    ZeroAbsorbing eight64 Ref.xoshiro8 (fun l => Ref.starstar l.b) ⟨0, 0, 0, 0, 0, 0, 0, 0⟩ :=
  ⟨degenerate_eight64, xoshiro8_eq_zero, starstar_zero⟩

/-- Settles O35. Each family's registers are read as a list of lanes, on which its rule is `ZeroAbsorbing`. -/
theorem theZeroLaneIsAbsorbingAndNoOtherLaneReachesIt :
    Obligations.TheZeroLaneIsAbsorbingAndNoOtherLaneReachesIt := by
  intro f n s t hf hr ⟨hshape, _⟩ hx j _
  cases f
  case xorshift32 =>
    obtain ⟨xs, hS⟩ := shaped_one32 hshape
    exact gen_zeroLane hr stepXorshift32_laneWise zeroAbsorbing_xorshift32 hS hx j
  case xorshift128 =>
    obtain ⟨ls, -, hS⟩ := shaped_quad32.1 hshape
    exact gen_zeroLane hr stepXorshift128_laneWise zeroAbsorbing_xorshift128 hS hx j
  case xorshift128plus =>
    obtain ⟨ls, -, hS⟩ := shaped_pair64.1 hshape
    exact gen_zeroLane hr (stepXorshift128plus_laneWise s.par) (zeroAbsorbing_xorshift128plus _) hS hx j
  case xoroshiro128ss =>
    obtain ⟨ls, -, hS⟩ := shaped_pair64.1 hshape
    exact gen_zeroLane hr stepXoroshiro128ss_laneWise zeroAbsorbing_xoroshiro128 hS hx j
  case xoshiro128ss =>
    obtain ⟨ls, -, hS⟩ := shaped_quad32.1 hshape
    exact gen_zeroLane hr stepXoshiro128ss_laneWise zeroAbsorbing_xoshiro128 hS hx j
  case xoshiro256ss =>
    obtain ⟨ls, -, hS⟩ := shaped_quad64.1 hshape
    exact gen_zeroLane hr stepXoshiro256ss_laneWise zeroAbsorbing_xoshiro256 hS hx j
  case xoshiro512ss =>
    obtain ⟨ls, hS⟩ := shaped_eight64 hshape
    exact gen_zeroLane hr stepXoshiro512ss_laneWise zeroAbsorbing_xoshiro512 hS hx j
  all_goals cases hf

end Sys2Proof.Machine
end

section
/-! O22 to O24: the PCG and LCG families (42_pcg_lcg.md). All five advance a lane by `Ref.lcg` and put out a function of its
old state alone, so each step is `LaneWise` as soon as its output is known lane by lane. -/

namespace Sys2Proof.Machine

/-! ## The advance (42_pcg_lcg.md R200, R204, R205) -/

/-- The decimal constant of the machine is the hexadecimal one of the reference (42_pcg_lcg.md R200). -/
theorem pcgMul_eq_ref : pcgMul = Ref.pcgMul := by decide

@[inherit_doc lcgAdvance_map]
theorem lcgAdvance_map32 (m : BitVec 32) (ls : List (Ref.Two 32)) :
    [LaneVec.u32 (lcgAdvance m (ls.map (·.a)) (ls.map (·.b))), .u32 (ls.map (·.b))] = pair32 (ls.map (Ref.lcg m)) := by
  simp only [lcgAdvance, vmulc_map, vadd_map, pair32, List.map_map, Function.comp_def, Ref.lcg]

theorem Inst.s32_pair32 {i : Inst} {ls : List (Ref.Two 32)} (h : i.S = pair32 ls) :
    i.s32 0 = ls.map (·.a) ∧ i.s32 1 = ls.map (·.b) := by
  simp only [Inst.s32, h]
  exact ⟨rfl, rfl⟩

/-- The form that the steps of the four 64-bit families share: the advance by `m`, and an output that is `out` of every
lane's old state. -/
theorem lcgStep64_laneWise {W : Nat} (m : BitVec 64) {vout : Vec 64 → Vec W} {out : BitVec 64 → BitVec W}
    (hout : ∀ ls : List (Ref.Two 64), vout (ls.map (·.a)) = ls.map fun l => out l.a) :
    LaneWise pair64 (Ref.lcg m) (fun l => out l.a)
      fun i => (i.put [.u64 (lcgAdvance m (i.s64 0) (i.s64 1)), .u64 (i.s64 1)], image (vout (i.s64 0))) := by
  intro i ls h
  obtain ⟨hstate, hinc⟩ := Inst.s64_pair64 h
  simp only [hstate, hinc, lcgAdvance_map, hout]

/-! ## The outputs of PCG32, PCG32_XSH and PCG32_XSL, lane by lane (42_pcg_lcg.md R201 to R203) -/

/-- The lane's output under a setting of PCG_XSH_OUT (42_pcg_lcg.md R202; log 8). -/
def xshOutFn : OutputFn → BitVec 64 → BitVec 32
  | .standard => Ref.pcgXorshift
  | .other => Config.pcgXshOut

/-- The lane's output under a setting of PCG_XSL_OUT (42_pcg_lcg.md R203; log 8). -/
def xslOutFn : OutputFn → BitVec 64 → BitVec 32
  | .standard => Ref.pcgXslOut
  | .other => Config.pcgXslOut

/-- A rotate by a vector of amounts is Lean's own rotate of each lane, which reduces the amount itself
(40_lane_vector.md R131). -/
theorem vrotrv_map {α : Type} {W V : Nat} (f : α → BitVec W) (g : α → BitVec V) (ls : List α) :
    vrotrv (ls.map f) (ls.map g) = ls.map fun l => (f l).rotateRight (g l).toNat := by
  rw [vrotrv, zipWith_map_map]
  simp only [rotr_eq_rotateRight, BitVec.rotateRight_mod_eq_rotateRight]

/-- The top five bits of a state survive the truncation to 32 bits (42_pcg_lcg.md R201). -/
theorem topFiveBits_setWidth (x : BitVec 64) : ((x >>> 59).setWidth 32).toNat = (x >>> 59).toNat := by
  have hlt := x.isLt
  rw [BitVec.toNat_setWidth, ushiftRight_toNat_eq_div]
  omega

section
variable {α : Type} (p : Params) (f : α → BitVec 64) (ls : List α)

theorem pcgXorshift_map : pcgXorshift (ls.map f) = ls.map fun l => Ref.pcgXorshift (f l) := by
  simp only [pcgXorshift, vxor_map, vshr_map, vtrunc_map]; rfl

theorem pcg32Out_map : pcg32Out (ls.map f) = ls.map fun l => Ref.pcg32Out (f l) := by
  simp only [pcg32Out, pcgXorshift_map, vshr_map, vtrunc_map, vrotrv_map, topFiveBits_setWidth]; rfl

theorem pcgXshOut_map : pcgXshOut p (ls.map f) = ls.map fun l => xshOutFn p.pcgXshOut (f l) := by
  rw [pcgXshOut]
  cases p.pcgXshOut with
  | standard => exact pcgXorshift_map f ls
  | other => exact List.map_map

theorem pcgXslOut_map : pcgXslOut p (ls.map f) = ls.map fun l => xslOutFn p.pcgXslOut (f l) := by
  rw [pcgXslOut]
  cases p.pcgXslOut with
  | standard => simp only [vxor_map, vshr_map, vtrunc_map]; rfl
  | other => exact List.map_map

end

/-! ## The outputs of LCG32 and LCG16, lane by lane (42_pcg_lcg.md R204, R205) -/

/-- The high or the low H bits of a value of 2H bits, as an integer (42_pcg_lcg.md R204, R205). -/
def halfOf {W : Nat} (high : Bool) (H : Nat) (x : BitVec W) : BitVec H :=
  BitVec.ofNat H (if high then x.toNat / 2 ^ H else x.toNat % 2 ^ H)

theorem halfOf_true {W : Nat} (H : Nat) (x : BitVec W) : halfOf true H x = (x >>> H).setWidth H := by
  rw [← BitVec.ofNat_toNat, ushiftRight_toNat_eq_div]
  rfl

theorem halfOf_false {W : Nat} (H : Nat) (x : BitVec W) : halfOf false H x = x.setWidth H :=
  BitVec.eq_of_toNat_eq (by simp [halfOf])

section
variable {α : Type} (p : Params)

/-- The choice that LCG_OUT_HIGH makes between the two halves of every lane, for any width (42_pcg_lcg.md R204, R205). -/
theorem vtrunc_half_map {W H : Nat} (hH : H < W) (high : Bool) (f : α → BitVec W) (ls : List α) :
    (if high then vtrunc H (vshr (ls.map f) H hH) else vtrunc H (ls.map f)) =
      ls.map fun l => halfOf high H (f l) := by
  cases high with
  | true => simp only [if_true, vshr_map, vtrunc_map, halfOf_true]
  | false => simp only [Bool.false_eq_true, if_false, vtrunc_map, halfOf_false]

theorem lcg32Out_map (f : α → BitVec 64) (ls : List α) :
    lcg32Out p (ls.map f) = ls.map fun l => halfOf p.lcgOutHigh 32 (f l) :=
  vtrunc_half_map _ _ f ls

theorem lcg16Out_map (f : α → BitVec 32) (ls : List α) :
    lcg16Out p (ls.map f) = ls.map fun l => halfOf p.lcgOutHigh 16 (f l) :=
  vtrunc_half_map _ _ f ls

end

/-! ## The families' steps, lane by lane -/

theorem stepPcg32_laneWise : LaneWise pair64 (Ref.lcg Ref.pcgMul) (fun l => Ref.pcg32Out l.a) stepPcg32 := by
  rw [← pcgMul_eq_ref]
  exact lcgStep64_laneWise pcgMul (pcg32Out_map _)

theorem stepPcg32Xsh_laneWise (p : Params) :
    LaneWise pair64 (Ref.lcg Ref.pcgMul) (fun l => xshOutFn p.pcgXshOut l.a) (stepPcg32Xsh p) := by
  rw [← pcgMul_eq_ref]
  exact lcgStep64_laneWise pcgMul (pcgXshOut_map p _)

theorem stepPcg32Xsl_laneWise (p : Params) :
    LaneWise pair64 (Ref.lcg Ref.pcgMul) (fun l => xslOutFn p.pcgXslOut l.a) (stepPcg32Xsl p) := by
  rw [← pcgMul_eq_ref]
  exact lcgStep64_laneWise pcgMul (pcgXslOut_map p _)

theorem stepLcg32_laneWise (p : Params) :
    LaneWise pair64 (Ref.lcg p.lcg32Mul) (fun l => halfOf p.lcgOutHigh 32 l.a) (stepLcg32 p) :=
  lcgStep64_laneWise p.lcg32Mul (lcg32Out_map p _)

theorem stepLcg16_laneWise (p : Params) :
    LaneWise pair32 (Ref.lcg p.lcg16Mul) (fun l => halfOf p.lcgOutHigh 16 l.a) (stepLcg16 p) := by
  intro i ls h
  obtain ⟨hstate, hinc⟩ := Inst.s32_pair32 h
  rw [stepLcg16, hstate, hinc, lcgAdvance_map32, lcg16Out_map]

/-! ## GEN of these families -/

/-- Settles O22. -/
theorem genPcg32StepsEveryLane : Obligations.GenPcg32StepsEveryLane :=
  fun _ _ _ hr hS => exec_gen_of_laneWise hr stepPcg32_laneWise hS

/-- Settles O23. The functions are `xshOutFn` and `xslOutFn` of the parameter's setting. -/
theorem genPcg32FixedRotationStepsEveryLane : Obligations.GenPcg32FixedRotationStepsEveryLane := by
  refine ⟨⟨rfl, rfl⟩, fun v => ⟨xshOutFn v, ?_, ?_⟩, fun v => ⟨xslOutFn v, ?_, ?_⟩⟩
  · rintro rfl
    rfl
  · rintro n s ls hr rfl hS
    exact exec_gen_of_laneWise hr (stepPcg32Xsh_laneWise s.par) hS
  · rintro rfl
    rfl
  · rintro n s ls hr rfl hS
    exact exec_gen_of_laneWise hr (stepPcg32Xsl_laneWise s.par) hS

/-- Settles O24, under both settings of LCG_OUT_HIGH. -/
theorem genLcgStepsEveryLane : Obligations.GenLcgStepsEveryLane :=
  ⟨⟨rfl, rfl, rfl⟩, fun _ s _ hr hS => exec_gen_of_laneWise hr (stepLcg32_laneWise s.par) hS,
    fun _ s _ hr hS => exec_gen_of_laneWise hr (stepLcg16_laneWise s.par) hS⟩

end Sys2Proof.Machine
end

section
/-! O25 to O28: the JSF, LFSR, MWC and SFC families (43_jsf_lfsr_mwc_sfc_xsm.md). The steps of JSF, LFSR and SFC are
`LaneWise`. That of MWC is not, because every lane has a factor of its own: it pairs the lanes with their factors. -/

namespace Sys2Proof.Machine

/-! ## The registers, word by word (00_scope.md R11) -/

theorem quad16_map {α : Type} (g : α → Ref.Four 16) (ls : List α) :
    quad16 (ls.map g) = [.u16 (ls.map fun l => (g l).a), .u16 (ls.map fun l => (g l).b), .u16 (ls.map fun l => (g l).c),
      .u16 (ls.map fun l => (g l).d)] := by
  simp only [quad16, List.map_map, Function.comp_def]

theorem five64_map {α : Type} (g : α → Ref.Five 64) (ls : List α) :
    five64 (ls.map g) = [.u64 (ls.map fun l => (g l).a), .u64 (ls.map fun l => (g l).b), .u64 (ls.map fun l => (g l).c),
      .u64 (ls.map fun l => (g l).d), .u64 (ls.map fun l => (g l).e)] := by
  simp only [five64, List.map_map, Function.comp_def]

section
variable {i : Inst}

theorem Inst.s16_quad16 {ls : List (Ref.Four 16)} (h : i.S = quad16 ls) :
    i.s16 0 = ls.map (·.a) ∧ i.s16 1 = ls.map (·.b) ∧ i.s16 2 = ls.map (·.c) ∧ i.s16 3 = ls.map (·.d) := by
  simp only [Inst.s16, h]
  exact ⟨rfl, rfl, rfl, rfl⟩

theorem Inst.range_s32_quad32 {ls : List (Ref.Four 32)} (h : i.S = quad32 ls) :
    (List.range 4).map i.s32 = [ls.map (·.a), ls.map (·.b), ls.map (·.c), ls.map (·.d)] := by
  obtain ⟨ha, hb, hc, hd⟩ := Inst.s32_quad32 h
  rw [← ha, ← hb, ← hc, ← hd]
  rfl

theorem Inst.range_s64_five64 {ls : List (Ref.Five 64)} (h : i.S = five64 ls) :
    (List.range 5).map i.s64 = [ls.map (·.a), ls.map (·.b), ls.map (·.c), ls.map (·.d), ls.map (·.e)] := by
  have hs : i.s64 = fun k => ((five64 ls)[k]?.map LaneVec.as64).getD [] := by funext k; rw [Inst.s64, h]
  rw [hs]
  rfl

theorem Inst.s64_one {xs : Vec 64} (h : i.S = [.u64 xs]) : i.s64 0 = xs := by
  rw [Inst.s64, h]; rfl

end

/-! ## JSF and SFC, lane by lane (43_jsf_lfsr_mwc_sfc_xsm.md R220, R221, R225 to R227) -/

section
variable {W : Nat} (ls : List (Ref.Four W))

/-- The five assignments in order give the words that the rule has in terms of the old ones. -/
theorem jsf_map (X Z : Nat) :
    jsf X Z (ls.map (·.a)) (ls.map (·.b)) (ls.map (·.c)) (ls.map (·.d)) =
      (ls.map fun l => (Ref.jsf X Z l).a, ls.map fun l => (Ref.jsf X Z l).b,
        ls.map fun l => (Ref.jsf X Z l).c, ls.map fun l => (Ref.jsf X Z l).d) := by
  simp only [jsf, Ref.jsf, vadd_map, vsub_map, vxor_map, vrotl_map]

theorem sfcOut_map : sfcOut (ls.map (·.a)) (ls.map (·.b)) (ls.map (·.d)) = ls.map Ref.sfcOut := by
  simp only [sfcOut, vadd_map]; rfl

theorem sfc_map (rot sr sl : Nat) (hr : sr < W) (hl : sl < W) :
    sfc rot sr sl hr hl (ls.map (·.a)) (ls.map (·.b)) (ls.map (·.c)) (ls.map (·.d)) =
      (ls.map fun l => (Ref.sfc rot sr sl l).a, ls.map fun l => (Ref.sfc rot sr sl l).b,
        ls.map fun l => (Ref.sfc rot sr sl l).c, ls.map fun l => (Ref.sfc rot sr sl l).d) := by
  simp only [sfc, sfcOut_map, Ref.sfc, vadd_map, vaddc_map, vxor_map, vshl_map, vshr_map, vrotl_map]

end

theorem stepJsf32_laneWise : LaneWise quad32 (Ref.jsf 9 16) (fun l => (Ref.jsf 9 16 l).d) stepJsf32 := by
  intro i ls h
  obtain ⟨ha, hb, hc, hd⟩ := Inst.s32_quad32 h
  rw [stepJsf32, ha, hb, hc, hd, jsf_map, quad32_map]

theorem stepJsf64_laneWise : LaneWise quad64 (Ref.jsf 39 11) (fun l => (Ref.jsf 39 11 l).d) stepJsf64 := by
  intro i ls h
  obtain ⟨ha, hb, hc, hd⟩ := Inst.s64_quad64 h
  rw [stepJsf64, ha, hb, hc, hd, jsf_map, quad64_map]

theorem stepSfc64_laneWise : LaneWise quad64 (Ref.sfc 24 11 3) Ref.sfcOut stepSfc64 := by
  intro i ls h
  obtain ⟨ha, hb, hc, hd⟩ := Inst.s64_quad64 h
  rw [stepSfc64, ha, hb, hc, hd, sfc_map, sfcOut_map, quad64_map]

theorem stepSfc32_laneWise : LaneWise quad32 (Ref.sfc 21 9 3) Ref.sfcOut stepSfc32 := by
  intro i ls h
  obtain ⟨ha, hb, hc, hd⟩ := Inst.s32_quad32 h
  rw [stepSfc32, ha, hb, hc, hd, sfc_map, sfcOut_map, quad32_map]

theorem stepSfc16_laneWise : LaneWise quad16 (Ref.sfc 6 5 3) Ref.sfcOut stepSfc16 := by
  intro i ls h
  obtain ⟨ha, hb, hc, hd⟩ := Inst.s16_quad16 h
  rw [stepSfc16, ha, hb, hc, hd, sfc_map, sfcOut_map, quad16_map]

/-! ## LFSR, lane by lane (43_jsf_lfsr_mwc_sfc_xsm.md R222, R223) -/

theorem lfsrWord_map {α : Type} {W : Nat} (r : LfsrRow W) (f : α → BitVec W) (ls : List α) :
    lfsrWord r (ls.map f) = ls.map fun l => Ref.lfsrWord r (f l) := by
  simp only [lfsrWord, vandc_map, vxor_map, vshl_map, vshr_map]; rfl

theorem toList_of_four {α : Type} (v : Vector α 4) : v.toList = [v[0], v[1], v[2], v[3]] := by
  match v with
  | ⟨⟨[_, _, _, _]⟩, _⟩ => rfl

theorem toList_of_five {α : Type} (v : Vector α 5) : v.toList = [v[0], v[1], v[2], v[3], v[4]] := by
  match v with
  | ⟨⟨[_, _, _, _, _]⟩, _⟩ => rfl

theorem lfsrWords_lfsr113 (tab : Vector (LfsrRow 32) 4) (ls : List (Ref.Four 32)) :
    lfsrWords tab.toList [ls.map (·.a), ls.map (·.b), ls.map (·.c), ls.map (·.d)] =
      [ls.map fun l => (Ref.lfsr113 tab l).a, ls.map fun l => (Ref.lfsr113 tab l).b,
        ls.map fun l => (Ref.lfsr113 tab l).c, ls.map fun l => (Ref.lfsr113 tab l).d] := by
  simp only [toList_of_four, lfsrWords, List.zipWith_cons_cons, List.zipWith_nil_left, lfsrWord_map, Ref.lfsr113]

theorem lfsrWords_lfsr258 (tab : Vector (LfsrRow 64) 5) (ls : List (Ref.Five 64)) :
    lfsrWords tab.toList [ls.map (·.a), ls.map (·.b), ls.map (·.c), ls.map (·.d), ls.map (·.e)] =
      [ls.map fun l => (Ref.lfsr258 tab l).a, ls.map fun l => (Ref.lfsr258 tab l).b,
        ls.map fun l => (Ref.lfsr258 tab l).c, ls.map fun l => (Ref.lfsr258 tab l).d,
        ls.map fun l => (Ref.lfsr258 tab l).e] := by
  simp only [toList_of_five, lfsrWords, List.zipWith_cons_cons, List.zipWith_nil_left, lfsrWord_map, Ref.lfsr258]

/-- The machine's xor starts from 0, which the first word absorbs (43_jsf_lfsr_mwc_sfc_xsm.md R222). -/
theorem xorWords_cons {α : Type} {W : Nat} (f : α → BitVec W) (ls : List α) (ws : List (Vec W)) :
    xorWords (ls.map f :: ws) = ws.foldl vxor (ls.map f) := by
  simp only [xorWords, List.foldl_cons, vsplat_map, vxor_map, BitVec.ofNat_eq_ofNat, BitVec.zero_xor]

theorem stepLfsr113_laneWise (p : Params) :
    LaneWise quad32 (Ref.lfsr113 p.lfsr113Tab)
      (fun l =>
        let w := Ref.lfsr113 p.lfsr113Tab l
        w.a ^^^ w.b ^^^ w.c ^^^ w.d) (stepLfsr113 p) := by
  intro i ls h
  rw [stepLfsr113, Inst.range_s32_quad32 h, lfsrWords_lfsr113, quad32_map]
  simp only [xorWords_cons, List.foldl_cons, List.foldl_nil, vxor_map]
  rfl

theorem stepLfsr258_laneWise (p : Params) :
    LaneWise five64 (Ref.lfsr258 p.lfsr258Tab)
      (fun l =>
        let w := Ref.lfsr258 p.lfsr258Tab l
        w.a ^^^ w.b ^^^ w.c ^^^ w.d ^^^ w.e) (stepLfsr258 p) := by
  intro i ls h
  rw [stepLfsr258, Inst.range_s64_five64 h, lfsrWords_lfsr258, five64_map]
  simp only [xorWords_cons, List.foldl_cons, List.foldl_nil, vxor_map]
  rfl

/-! ## A word at or below its threshold (43_jsf_lfsr_mwc_sfc_xsm.md R222) -/

/-- The bits of `w` are below k, and the mask has none there. -/
theorem and_lfsrMask_eq_zero {W : Nat} (r : LfsrRow W) {w : BitVec W} (hw : w.toNat < 2 ^ r.k.val) :
    w &&& lfsrMask r = 0 := by
  apply BitVec.eq_of_getLsbD_eq
  intro j hj
  rw [BitVec.getLsbD_and, BitVec.ofNat_eq_ofNat, BitVec.getLsbD_zero, Bool.and_eq_false_iff]
  by_cases hk : j < r.k.val
  · right
    have hbit : (lfsrThreshold r).getLsbD j = true := by
      rw [BitVec.getLsbD, lfsrThreshold_toNat, Nat.testBit_two_pow_sub_one]
      exact decide_eq_true hk
    rw [lfsrMask, BitVec.getLsbD_not, hbit, Bool.not_true, Bool.and_false]
  · left
    exact Nat.testBit_lt_two_pow (hw.trans_le (Nat.pow_le_pow_right (by decide) (not_lt.1 hk)))

/-- Both xored words are below 2^(k + s1), so the shift by s2 leaves nothing of them. -/
theorem lfsrShifted_eq_zero {W : Nat} (r : LfsrRow W) {w : BitVec W} (hs : r.k.val + r.s1.val ≤ r.s2.val)
    (hw : w.toNat < 2 ^ r.k.val) : ((w <<< r.s1.val) ^^^ w) >>> r.s2.val = 0 := by
  have hbound : 2 ^ (r.k.val + r.s1.val) ≤ 2 ^ r.s2.val := Nat.pow_le_pow_right (by decide) hs
  have hshl : (w <<< r.s1.val).toNat < 2 ^ (r.k.val + r.s1.val) := by
    rw [shiftLeft_toNat_eq_mul, pow_add]
    exact (Nat.mod_le _ _).trans_lt (Nat.mul_lt_mul_of_pos_right hw (by positivity))
  have hlt : w.toNat < 2 ^ (r.k.val + r.s1.val) :=
    hw.trans_le (Nat.pow_le_pow_right (by decide) (Nat.le_add_right _ _))
  apply BitVec.eq_of_toNat_eq
  rw [ushiftRight_toNat_eq_div, BitVec.toNat_xor]
  exact Nat.div_eq_of_lt ((Nat.xor_lt_two_pow hshl hlt).trans_le hbound)

theorem lfsrWord_eq_zero {W : Nat} (r : LfsrRow W) {w : BitVec W} (hs : r.k.val + r.s1.val ≤ r.s2.val)
    (hw : w.toNat ≤ 2 ^ r.k.val - 1) : Ref.lfsrWord r w = 0 := by
  have hlt : w.toNat < 2 ^ r.k.val := by
    have hpos : 0 < 2 ^ r.k.val := by positivity
    omega
  have hmasked : w &&& ~~~BitVec.ofNat W (2 ^ r.k.val - 1) = 0 := and_lfsrMask_eq_zero r hlt
  rw [Ref.lfsrWord, hmasked, lfsrShifted_eq_zero r hs hlt, BitVec.ofNat_eq_ofNat, BitVec.xor_zero,
    BitVec.zero_shiftLeft]

/-! ## MWC, lane by lane (43_jsf_lfsr_mwc_sfc_xsm.md R224) -/

theorem mwcNat_lt (factor : BitVec 32) (x : BitVec 64) : Ref.mwcNat factor x < 2 ^ 64 := by
  have hlow : x.toNat % 2 ^ 32 ≤ 2 ^ 32 - 1 := by omega
  have hfactor : factor.toNat ≤ 2 ^ 32 - 1 := by have := factor.isLt; omega
  have hprod := Nat.mul_le_mul hlow hfactor
  have hx := x.isLt
  rw [Ref.mwcNat]
  omega

/-- One lane of the machine's step: the integer of the rule modulo 2^64, which `mwcNat_lt` says cuts nothing off. -/
theorem mwcLane_eq_ofNat (factor : BitVec 32) (x : BitVec 64) :
    wmul32 x (factor.setWidth 64) + x >>> 32 = BitVec.ofNat 64 (Ref.mwcNat factor x) := by
  have hfactor : factor.toNat < 2 ^ 32 := factor.isLt
  apply BitVec.eq_of_toNat_eq
  rw [BitVec.toNat_add, wmul32_toNat, ushiftRight_toNat_eq_div, BitVec.toNat_ofNat, Ref.mwcNat,
    BitVec.toNat_setWidth_of_le (by decide), Nat.mod_eq_of_lt hfactor]

/-- Factors past the lanes are not used (43_jsf_lfsr_mwc_sfc_xsm.md R224). -/
theorem mwcNext_eq_zipWith (factors : List (BitVec 32)) (xs : Vec 64) :
    mwcNext factors xs = List.zipWith (fun f x => BitVec.ofNat 64 (Ref.mwcNat f x)) factors xs := by
  induction factors generalizing xs with
  | nil => cases xs <;> rfl
  | cons f factors ih =>
    cases xs with
    | nil => rfl
    | cons x xs =>
      rw [List.zipWith_cons_cons, ← mwcLane_eq_ofNat, ← ih xs]
      rfl

theorem mwcMix_eq_map (ys : Vec 64) : mwcMix ys = ys.map Ref.mwcMix := by
  calc mwcMix ys = mwcMix (ys.map id) := by rw [List.map_id]
    _ = ys.map Ref.mwcMix := by simp only [mwcMix, vxor_map, vshl_map, vshr_map]; rfl

theorem stepMwc_eq (p : Params) {i : Inst} {xs : Vec 64} (h : i.S = [.u64 xs]) :
    stepMwc p i =
      let ys := List.zipWith (fun f x => BitVec.ofNat 64 (Ref.mwcNat f x)) p.mwcFactor.toList xs
      (i.put [.u64 ys], image (ys.map Ref.mwcMix)) := by
  rw [stepMwc, Inst.s64_one h, mwcNext_eq_zipWith, mwcMix_eq_map]

/-! ## GEN of these families -/

/-- Settles O25. -/
theorem genJsfStepsEveryLane : Obligations.GenJsfStepsEveryLane :=
  ⟨fun _ _ _ hr hS => exec_gen_of_laneWise hr stepJsf32_laneWise hS,
    fun _ _ _ hr hS => exec_gen_of_laneWise hr stepJsf64_laneWise hS⟩

/-- Settles O26: the steps for any tables, and the corner case by the bounds on one word. -/
theorem genLfsrStepsEveryLane : Obligations.GenLfsrStepsEveryLane :=
  ⟨⟨rfl, rfl⟩, fun _ s _ hr hS => exec_gen_of_laneWise hr (stepLfsr113_laneWise s.par) hS,
    fun _ s _ hr hS => exec_gen_of_laneWise hr (stepLfsr258_laneWise s.par) hS,
    fun _ r _ hs hw => lfsrWord_eq_zero r hs hw⟩

/-- Settles O27. The lanes take the first factors of the eight, as `List.zipWith` does. -/
theorem genMwcStepsEveryLane : Obligations.GenMwcStepsEveryLane := by
  refine ⟨rfl, mwcNat_lt, fun n s xs hr _ hS => ?_⟩
  obtain ⟨hadm, herr, hvalid, hcfg⟩ := hr
  have hwf : (Instr.genMwc n).wf = true := (wf_gen .mwc n).trans hadm
  have hgen : exec (.genMwc n) s = .next (s.genWith (.genMwc n) (cfgOf .mwc n) (stepMwc s.par)) := exec_gen .mwc n s
  rw [hgen, State.genWith_ok herr hwf hvalid hcfg, stepMwc_eq s.par hS]
  rfl

/-- Settles O28. -/
theorem genSfcStepsEveryLane : Obligations.GenSfcStepsEveryLane :=
  ⟨fun _ _ _ hr hS => exec_gen_of_laneWise hr stepSfc64_laneWise hS,
    fun _ _ _ hr hS => exec_gen_of_laneWise hr stepSfc32_laneWise hS,
    fun _ _ _ hr hS => exec_gen_of_laneWise hr stepSfc16_laneWise hS⟩

end Sys2Proof.Machine
end

section
/-! O30 to O33: the ChaCha, ARS, AesRand and SSE LCG families, each of one fixed shape (44_chacha_aes_sse.md). For every
family one lemma says what its step is on registers of that shape; GEN is then that step. -/

namespace Sys2Proof.Machine

/-- GEN with its checks passed, for any family: what the step answers, and nothing else (47_control.md R364). -/
theorem exec_gen_of_step {f : Fam} {n : Lanes} {s : State} {j : Inst} {bytes : List Byte} (hr : Ready s f n)
    (hstep : stepOf s.par f s.inst = (j, bytes)) :
    exec (Instr.gen f n) s = .next { s with inst := j, out := s.out ++ bytes } := by
  obtain ⟨hadm, herr, hvalid, hcfg⟩ := hr
  rw [exec_gen, State.genWith_ok herr ((wf_gen f n).trans hadm) hvalid hcfg, hstep]

/-! ## ChaCha: the quarter-round (44_chacha_aes_sse.md R261) -/

/-- The four indices of a quarter-round are those of four different words. -/
def QuarterIndices (q : Nat × Nat × Nat × Nat) : Prop :=
  [q.1, q.2.1, q.2.2.1, q.2.2.2].Nodup ∧ q.1 < 16 ∧ q.2.1 < 16 ∧ q.2.2.1 < 16 ∧ q.2.2.2 < 16

theorem roundIndices_quarterIndices : ∀ q ∈ Ref.roundIndices, QuarterIndices q := by
  unfold QuarterIndices
  decide

/-- The machine's quarter-round of four words, put back where the words came from. -/
def quarterAt (r : RotTuple) (x : List (BitVec 32)) (q : Nat × Nat × Nat × Nat) : List (BitVec 32) :=
  let w := quarterWords r (x.getD q.1 0) (x.getD q.2.1 0) (x.getD q.2.2.1 0) (x.getD q.2.2.2 0)
  (((x.set q.1 w.1).set q.2.1 w.2.1).set q.2.2.1 w.2.2.1).set q.2.2.2 w.2.2.2

@[simp] theorem quarterAt_length (r : RotTuple) (x : List (BitVec 32)) (q : Nat × Nat × Nat × Nat) :
    (quarterAt r x q).length = x.length := by
  simp [quarterAt]

/-- Of two writes to each of four different places, in this order, the later ones stay. -/
theorem set_eight_eq_set_four {α : Type} (x : List α) {a b c d : Nat} (hne : [a, b, c, d].Nodup)
    (a₁ b₁ c₁ d₁ a₂ b₂ c₂ d₂ : α) :
    (((((((x.set a a₁).set d d₁).set c c₁).set b b₁).set a a₂).set d d₂).set c c₂).set b b₂ =
      (((x.set a a₂).set b b₂).set c c₂).set d d₂ := by
  apply List.ext_getElem
  · simp only [List.length_set]
  · intro k _ _
    simp only [List.getElem_set]
    grind

/-- The reference writes every operation's result back at once; for four different words that changes nothing. -/
theorem quarterRound_eq_quarterAt (r : RotTuple) {q : Nat × Nat × Nat × Nat} (hq : QuarterIndices q)
    {x : List (BitVec 32)} (hx : x.length = 16) :
    Ref.quarterRound r.r1 r.r2 r.r3 r.r4 q.1 q.2.1 q.2.2.1 q.2.2.2 x = quarterAt r x q := by
  obtain ⟨ia, ib, ic, id⟩ := q
  obtain ⟨hne, ha, hb, hc, hd⟩ := hq
  have hdistinct := hne
  simp only [List.nodup_cons, List.mem_cons, List.not_mem_nil, or_false, not_or] at hdistinct
  obtain ⟨⟨hab, hac, had⟩, ⟨hbc, hbd⟩, hcd, -⟩ := hdistinct
  simp only [← hx] at ha hb hc hd
  simp only [Ref.quarterRound, quarterAt, quarterWords, rotl_eq_rotateLeft, List.getD_eq_getElem?_getD,
    List.getElem?_set_self, List.getElem?_set_ne, Option.getD_some, List.length_set, ha, hb, hc, hd, hab, hac, had, hbc, hbd,
    hcd, Ne.symm hab, Ne.symm hac, Ne.symm had, Ne.symm hbc, Ne.symm hbd, Ne.symm hcd, ne_eq, not_false_eq_true]
  exact set_eight_eq_set_four x hne _ _ _ _ _ _ _ _

/-! ## ChaCha: the double-round and the block (44_chacha_aes_sse.md R264) -/

/-- Quarter-rounds one after another, in the reference's way and in the machine's. -/
theorem foldl_quarterRound_eq (r : RotTuple) {qs : List (Nat × Nat × Nat × Nat)} (hqs : ∀ q ∈ qs, QuarterIndices q)
    {x : List (BitVec 32)} (hx : x.length = 16) :
    qs.foldl (fun x q => Ref.quarterRound r.r1 r.r2 r.r3 r.r4 q.1 q.2.1 q.2.2.1 q.2.2.2 x) x =
      qs.foldl (quarterAt r) x := by
  induction qs generalizing x with
  | nil => rfl
  | cons q qs ih =>
    rw [List.forall_mem_cons] at hqs
    obtain ⟨hq, hqs⟩ := hqs
    rw [List.foldl_cons, List.foldl_cons, quarterRound_eq_quarterAt r hq hx, ih hqs ((quarterAt_length r x q).trans hx)]

/-- The machine's sixteen variables are the places that the index pattern names. -/
theorem doubleRound_eq_foldl (r : RotTuple) {x : List (BitVec 32)} (hx : x.length = 16) :
    doubleRound r x = Ref.roundIndices.foldl (quarterAt r) x := by
  match x, hx with
  | [_, _, _, _, _, _, _, _, _, _, _, _, _, _, _, _], _ =>
    simp only [doubleRound, Ref.roundIndices, List.foldl_cons, List.foldl_nil, quarterAt, List.getD_cons_zero,
      List.getD_cons_succ, List.set_cons_zero, List.set_cons_succ]

theorem doubleRound_eq_ref (r : RotTuple) {x : List (BitVec 32)} (hx : x.length = 16) :
    doubleRound r x = Ref.doubleRound r.r1 r.r2 r.r3 r.r4 x :=
  (doubleRound_eq_foldl r hx).trans (foldl_quarterRound_eq r roundIndices_quarterIndices hx).symm

theorem doubleRound_length (r : RotTuple) {x : List (BitVec 32)} (hx : x.length = 16) : (doubleRound r x).length = 16 := by
  rw [doubleRound_eq_foldl r hx]
  exact List.foldlRecOn (motive := fun y => y.length = 16) Ref.roundIndices (quarterAt r) hx
    fun y hy q _ => (quarterAt_length r y q).trans hy

theorem repeated_doubleRound_eq (r : RotTuple) (DR : Nat) {x : List (BitVec 32)} (hx : x.length = 16) :
    repeated (doubleRound r) DR x = (Ref.doubleRound r.r1 r.r2 r.r3 r.r4)^[DR] x := by
  induction DR generalizing x with
  | zero => rfl
  | succ DR ih =>
    rw [repeated, ih (doubleRound_length r hx), doubleRound_eq_ref r hx, Function.iterate_succ_apply]

theorem chachaBlock_eq_ref (r : RotTuple) (DR : Nat) {c : List (BitVec 32)} (hc : c.length = 16) :
    chachaBlock DR r c = Ref.chachaBlock DR r.r1 r.r2 r.r3 r.r4 c := by
  rw [chachaBlock, repeated_doubleRound_eq r DR hc]
  rfl

/-! ## ChaCha: the counter and the step (44_chacha_aes_sse.md R260, R262, R263) -/

/-- The counter as an integer: a carry out of word 12 enters word 13. -/
theorem chachaCounter_toNat (c : List (BitVec 32)) :
    (chachaCounter c).toNat = ((c.getD 12 0).toNat + 2 ^ 32 * (c.getD 13 0).toNat + 1) % 2 ^ 64 := by
  have happend : (c.getD 13 0 ++ c.getD 12 0 : BitVec 64).toNat = 2 ^ 32 * (c.getD 13 0).toNat + (c.getD 12 0).toNat := by
    rw [BitVec.toNat_append, Nat.shiftLeft_eq, Nat.mul_comm, Nat.two_pow_add_eq_or_of_lt (c.getD 12 0).isLt]
  rw [chachaCounter, BitVec.toNat_add, happend, Nat.add_comm (2 ^ 32 * _)]
  rfl

/-- The words that the machine cuts out of the counter are the low and the high half of the integer. -/
theorem chachaCounter_written (c : List (BitVec 32)) :
    (c.set 12 ((chachaCounter c).extractLsb' 0 32)).set 13 ((chachaCounter c).extractLsb' 32 32) = Ref.chachaNext c := by
  have hlow : (chachaCounter c).extractLsb' 0 32 = BitVec.ofNat 32 ((chachaCounter c).toNat % 2 ^ 32) :=
    BitVec.eq_of_toNat_eq (by simp)
  have hhigh : (chachaCounter c).extractLsb' 32 32 = BitVec.ofNat 32 ((chachaCounter c).toNat / 2 ^ 32) :=
    BitVec.eq_of_toNat_eq (by simp [Nat.shiftRight_eq_div_pow])
  rw [hlow, hhigh, chachaCounter_toNat]
  rfl

theorem oneLane32_injective : Function.Injective oneLane32 :=
  List.map_injective_iff.2 fun _ _ h => by simpa using h

theorem Inst.chachaWords_oneLane32 {i : Inst} {c : List (BitVec 32)} (hc : c.length = 16) (h : i.S = oneLane32 c) :
    i.chachaWords = c := by
  apply oneLane32_injective
  rw [← h]
  refine oneLane32_chachaWords (by simpa [h, oneLane32] using hc) fun w hw => ?_
  rw [h] at hw
  obtain ⟨x, -, rfl⟩ := List.mem_map.1 hw
  exact ⟨rfl, rfl⟩

/-- The step of either ChaCha family, on sixteen words of one lane. -/
theorem stepChacha_eq (p : Params) (r : RotTuple) {i : Inst} {c : List (BitVec 32)} (hc : c.length = 16)
    (h : i.S = oneLane32 c) :
    stepChacha p r i = (i.put (oneLane32 (Ref.chachaNext c)),
      image (Ref.chachaBlock p.chachaDoubleRounds r.r1 r.r2 r.r3 r.r4 c)) := by
  simp only [stepChacha, Inst.chachaWords_oneLane32 hc h, chachaCounter_written, chachaBlock_eq_ref r _ hc]
  rfl

/-! ## ARS: pairs of 64-bit lanes (40_lane_vector.md R141, 10_state.md R24) -/

theorem add64x2_join (alo ahi blo bhi : BitVec 64) :
    add64x2 (Ref.join alo ahi) (Ref.join blo bhi) = Ref.join (alo + blo) (ahi + bhi) := by
  simp only [add64x2, Ref.join, BitVec.extractLsb'_append_eq_left, BitVec.extractLsb'_append_eq_right]

theorem arsWeyl_eq_join : arsWeyl = Ref.join 0x9E3779B97F4A7C15 0xBB67AE8584CAA73B := by decide

/-! ## ARS: the round keys and the output (44_chacha_aes_sse.md R267) -/

theorem arsKey_zero (klo khi : BitVec 64) : Ref.arsKey klo khi 0 = Ref.join klo khi := by
  simp [Ref.arsKey]

theorem add_ofNat_succ_mul {W : Nat} (k w : BitVec W) (i : Nat) :
    k + BitVec.ofNat W (i + 1) * w = k + BitVec.ofNat W i * w + w := by
  rw [BitVec.ofNat_add, add_mul, add_assoc]
  exact congrArg _ (congrArg _ (one_mul w))

/-- The next round key is the machine's lanewise addition of WEYL. -/
theorem arsKey_succ (klo khi : BitVec 64) (i : Nat) :
    Ref.arsKey klo khi (i + 1) = add64x2 (Ref.arsKey klo khi i) arsWeyl := by
  rw [Ref.arsKey, Ref.arsKey, arsWeyl_eq_join, add64x2_join, add_ofNat_succ_mul, add_ofNat_succ_mul]

/-- The machine's rounds, `m` of them and the last one, from the key of round `i` on. -/
theorem arsRounds_eq (klo khi : BitVec 64) (m i : Nat) (v : BitVec 128) :
    arsRounds m (Ref.arsKey klo khi i) v =
      aesEncLast ((List.range' i m).foldl (fun v j => aesEnc v (Ref.arsKey klo khi (j + 1))) v)
        (Ref.arsKey klo khi (i + m + 1)) := by
  induction m generalizing i v with
  | zero => rw [arsRounds, ← arsKey_succ]; rfl
  | succ m ih =>
    rw [arsRounds, ← arsKey_succ, ih, List.range'_succ, List.foldl_cons, Nat.add_right_comm i 1 m]
    rfl

theorem arsOut_eq_reference (p : Params) {R : Nat} (hR : 0 < R) (clo chi klo khi : BitVec 64) :
    arsOut p R (Ref.join clo chi) (Ref.join klo khi) = arsReference p.arsPrewhiten R clo chi klo khi := by
  have hlast : 0 + (R - 1) + 1 = R := by omega
  rw [arsOut, ← arsKey_zero klo khi, arsRounds_eq, arsReference, arsKey_zero, hlast, List.range_eq_range']

theorem Inst.s128_two {i : Inst} {a b : Vec 128} (h : i.S = [.u128 a, .u128 b]) : i.s128 0 = a ∧ i.s128 1 = b := by
  simp only [Inst.s128, h]
  exact ⟨rfl, rfl⟩

theorem stepArs_eq (p : Params) {R : Nat} (hR : 0 < R) {i : Inst} {clo chi klo khi : BitVec 64}
    (h : i.S = [.u128 [Ref.join clo chi], .u128 [Ref.join klo khi]]) :
    stepArs p R i =
      (i.put [.u128 [Ref.join (clo + p.arsCtrIncLow) (chi + p.arsCtrIncHigh)], .u128 [Ref.join klo khi]],
        image [arsReference p.arsPrewhiten R clo chi klo khi]) := by
  obtain ⟨hctr, hkey⟩ := Inst.s128_two h
  have hinc : p.arsCtrIncHigh ++ p.arsCtrIncLow = Ref.join p.arsCtrIncLow p.arsCtrIncHigh := rfl
  simp only [stepArs, hctr, hkey, hinc, List.map_cons, List.map_nil, List.zipWith_cons_cons, List.zipWith_nil_left,
    add64x2_join, arsOut_eq_reference p hR]

/-! ## AesRand (44_chacha_aes_sse.md R270) -/

theorem stepAesrand_buffered (p : Params) {i : Inst} (h : i.bufv = true) :
    stepAesrand p i = ({ i with bufv := false }, image i.buf) :=
  if_pos h

theorem stepAesrand_fresh (p : Params) {i : Inst} {ctr : BitVec 128} (hb : i.bufv = false) (h : i.S = [.u128 [ctr]]) :
    stepAesrand p i =
      ({ S := [.u128 [add64x2 ctr p.aesrandInc]], buf := [aesDec (add64x2 ctr p.aesrandInc) p.aesrandKey], bufv := true },
        image [aesEnc (add64x2 ctr p.aesrandInc) p.aesrandKey]) := by
  have hctr : i.s128 0 = [ctr] := by rw [Inst.s128, h]; rfl
  rw [stepAesrand, if_neg (by simp [hb]), hctr]
  rfl

/-! ## SSE LCG (44_chacha_aes_sse.md R271) -/

theorem stepSselcg_eq (p : Params) {i : Inst} {x0 x1 x2 x3 : BitVec 32} (h : i.S = [.u32 [x0, x1, x2, x3]]) :
    let ys := [x0 * p.sseMul[0] + p.sseAdd[0], x1 * p.sseMul[1] + p.sseAdd[1],
      x2 * p.sseMul[2] + p.sseAdd[2], x3 * p.sseMul[3] + p.sseAdd[3]]
    stepSselcg p i = (i.put [.u32 ys], image ys) := by
  rw [stepSselcg, Inst.s32_one h, vector4_toList p.sseMul, vector4_toList p.sseAdd]
  rfl

/-! ## GEN of these families -/

/-- Settles O30. -/
theorem genChachaAppendsTheBlockOfTheOldCounter : Obligations.GenChachaAppendsTheBlockOfTheOldCounter :=
  ⟨rfl, fun s _ hr hc hS => exec_gen_of_step hr (stepChacha_eq s.par ⟨16, 12, 8, 7⟩ hc hS),
    fun s _ hr hc hS => exec_gen_of_step hr (stepChacha_eq s.par ⟨16, 16, 8, 8⟩ hc hS)⟩

/-- Settles O31. -/
theorem genArsEncryptsTheOldCounter : Obligations.GenArsEncryptsTheOldCounter :=
  ⟨⟨rfl, rfl, rfl⟩, fun s _ _ _ _ hr hS => exec_gen_of_step hr (stepArs_eq s.par (by decide) hS),
    fun s _ _ _ _ hr hS => exec_gen_of_step hr (stepArs_eq s.par (by decide) hS)⟩

/-- Settles O32. -/
theorem genAesrandAlternates : Obligations.GenAesrandAlternates :=
  ⟨⟨by decide, rfl⟩, fun s hr hb => exec_gen_of_step hr (stepAesrand_buffered s.par hb),
    fun s _ hr hb hS => exec_gen_of_step hr (stepAesrand_fresh s.par hb hS)⟩

/-- Settles O33. -/
theorem genSselcgStepsItsFourLanes : Obligations.GenSselcgStepsItsFourLanes :=
  ⟨⟨rfl, rfl⟩, fun s _ _ _ _ hr hS => exec_gen_of_step hr (stepSselcg_eq s.par hS)⟩

end Sys2Proof.Machine
end

section
/-! O38 to O48: the seedings (45_seeding.md). SEED_RNG of every family but the LFSRs runs one loop, whose listed answers the
rules accept (`SeedLoads.taken`) or not (`SeedLoads.rejected`); the LFSR families draw word by word (`Histories`), and
SEED_BLOCKS draws a scalar, whose jump is the rule's on one lane (`JumpsAs`). SEED_FIXED tests its bytes as SEED_RNG tests its
first draw, and every valid state is the load of some bytes. -/

namespace Sys2Proof.Machine

/-! ## Draws against the rules of a seed image (20_memory.md R64; 45_seeding.md R303, R343) -/

theorem SeedLoads.length_and_load {p : Params} {f : Fam} {n : Lanes} {b : List Byte} {S : List LaneVec}
    (h : SeedLoads p f n b S) : b.length = (seedProcOf p f n).sb ∧ (seedProcOf p f n).load b = S := by
  rw [seedProcOf_sb]
  exact (seedLoads_iff p f n b S).1 h

/-- A seed image that the rules accept is one that the family's procedure takes. -/
theorem SeedLoads.taken {p : Params} {f : Fam} {n : Lanes} {b : List Byte} {S : List LaneVec}
    (h : SeedLoads p f n b S) (ha : Accepted p f n S) :
    b.length = (seedProcOf p f n).sb ∧ (seedProcOf p f n).load b = S ∧
      (seedProcOf p f n).accept ((seedProcOf p f n).load b) = true := by
  obtain ⟨hb, hS⟩ := h.length_and_load
  exact ⟨hb, hS, hS ▸ (accept_iff h.shaped).2 ha⟩

/-- A seed image that the rules do not accept is one that the family's procedure rejects. -/
theorem SeedLoads.rejected {p : Params} {f : Fam} {n : Lanes} {b : List Byte} {S : List LaneVec}
    (h : SeedLoads p f n b S) (ha : ¬ Accepted p f n S) :
    b.length = (seedProcOf p f n).sb ∧ (seedProcOf p f n).accept ((seedProcOf p f n).load b) = false := by
  obtain ⟨hb, hS⟩ := h.length_and_load
  exact ⟨hb, hS ▸ Bool.eq_false_iff.2 fun h' => ha ((accept_iff h.shaped).1 h')⟩

/-- The source answers at least the requests that the listed answers meet (20_memory.md R70; log 5). -/
theorem State.lt_answered {s : State} {as rest : List EntAnswer} {a : EntAnswer} (h : s.ent = as ++ a :: rest) :
    as.length < s.answered := by
  have := s.answered_le
  rw [h, List.length_append, List.length_cons] at this
  omega

theorem State.answered_cons {s : State} {a : EntAnswer} {rest : List EntAnswer} (h : s.ent = a :: rest) :
    ∃ fuel, s.answered = fuel + 1 ∧ rest.length ≤ fuel :=
  ⟨Config.entAnswers s.draws + rest.length, by rw [State.answered, h, List.length_cons]; omega, by omega⟩

section
variable {f : Fam} {n : Lanes} {s : State} {rest : List EntAnswer}

/-- Listed draws that the rules do not accept are drawn again (45_seeding.md R303). -/
theorem draws_rejected {rejected : List (List Byte)}
    (hr : ∀ b ∈ rejected, ∃ R, SeedLoads s.par f n b R ∧ ¬ Accepted s.par f n R) :
    ∀ b ∈ rejected, b.length = (seedProcOf s.par f n).sb ∧
      (seedProcOf s.par f n).accept ((seedProcOf s.par f n).load b) = false := by
  intro b hb
  obtain ⟨R, hload, hna⟩ := hr b hb
  exact hload.rejected hna

/-- SEED_RNG, but for the LFSR families, after draws that are rejected (45_seeding.md R300, R303). -/
theorem exec_seedRng_done (h1 : f ≠ .lfsr113) (h2 : f ≠ .lfsr258) (hadm : f.admits n = true) (he : s.err = .none)
    {rejected : List (List Byte)} (hr : ∀ b ∈ rejected, ∃ R, SeedLoads s.par f n b R ∧ ¬ Accepted s.par f n R)
    {b : List Byte} {S : List LaneVec} (hb : SeedLoads s.par f n b S) (ha : Accepted s.par f n S)
    (hent : s.ent = rejected.map .ok ++ .ok b :: rest) :
    exec (Instr.seedRng f n) s = .next { s with
      cfg := cfgOf f n, valid := true, inst := { Inst.empty with S := S }
      ent := rest, draws := s.draws + rejected.length + 1 } := by
  obtain ⟨hlen, rfl, hacc⟩ := hb.taken ha
  rw [exec_seedRng h1 h2, State.seedRngWith, State.command_ok he ((wf_seedRng f n).trans hadm),
    seedLoop_done _ rejected b rest s.answered s.dropInstance (draws_rejected hr) hlen hacc hent
      (by simpa using s.lt_answered hent)]
  rfl

/-- SEED_RNG, but for the LFSR families, where a draw fails after draws that are rejected (45_seeding.md R345). -/
theorem exec_seedRng_failed (h1 : f ≠ .lfsr113) (h2 : f ≠ .lfsr258) (hadm : f.admits n = true) (he : s.err = .none)
    {rejected : List (List Byte)} (hr : ∀ b ∈ rejected, ∃ R, SeedLoads s.par f n b R ∧ ¬ Accepted s.par f n R)
    {code : BitVec 32} (hent : s.ent = rejected.map .ok ++ .fail code :: rest) :
    exec (Instr.seedRng f n) s = .next { s with
      cfg := ⟨0, 0⟩, valid := false, inst := Inst.empty
      err := .entropy, errcmd := encode (Instr.seedRng f n), entcode := code
      ent := rest, draws := s.draws + rejected.length + 1 } := by
  rw [exec_seedRng h1 h2, State.seedRngWith, State.command_ok he ((wf_seedRng f n).trans hadm),
    seedLoop_failed _ rejected code rest s.answered s.dropInstance (draws_rejected hr) hent
      (by simpa using s.lt_answered hent)]
  rfl

end

/-! ## The words of an LFSR seeding, with listed answers (45_seeding.md R324) -/

section
variable {W : Nat} {N : Nat}

/-- The draws of the words of an LFSR state, row by row of the table: each word is drawn until it is above its row's threshold
(45_seeding.md R324). -/
def Histories (N : Nat) (tab : List (LfsrRow W)) (h : List (Vec W × List (Vec W) × Vec W)) : Prop :=
  List.Forall₂ (fun r w => WordHistory N (2 ^ r.k.val - 1) w.1 w.2.1 w.2.2) tab h

theorem WordHistory.first_length {T : Nat} {first last : Vec W} {more : List (Vec W)}
    (h : WordHistory N T first more last) : first.length = N := by
  cases more <;> exact h.1

theorem Histories.first_lengths {tab : List (LfsrRow W)} {h : List (Vec W × List (Vec W) × Vec W)}
    (hh : Histories N tab h) : ∀ v ∈ h.map (·.1), v.length = N := by
  induction hh with
  | nil => simp
  | cons hw _ ih => exact List.forall_mem_cons.2 ⟨hw.first_length, ih⟩

/-- Words above their thresholds have the history of one draw each. -/
theorem AboveThresholds.histories {tab : List (LfsrRow W)} {ws : List (Vec W)} (ha : AboveThresholds tab ws)
    (hN : ∀ w ∈ ws, w.length = N) : Histories N tab (ws.map fun w => (w, [], w)) := by
  induction ha with
  | nil => exact .nil
  | cons hw _ ih =>
    obtain ⟨hlen, hlater⟩ := List.forall_mem_cons.1 hN
    exact .cons ⟨hlen, rfl, hw⟩ (ih hlater)

theorem redraws_length (h : List (Vec W × List (Vec W) × Vec W)) : (redraws h).length = redrawCount h := by
  simp [redraws, redrawCount, List.length_flatMap]

/-- The words of a history are kept one after another, each at its last draw. -/
theorem resampleWords_kept (hW : W % 8 = 0) {tab : List (LfsrRow W)} {h : List (Vec W × List (Vec W) × Vec W)}
    (hh : Histories N tab h) {fuel : Nat} {s : State} {rest : List EntAnswer} (hent : s.ent = redraws h ++ rest)
    (hf : redrawCount h ≤ fuel) :
    resampleWords N fuel ((tab.map lfsrThreshold).zip (h.map (·.1))) s =
      .kept (h.map (·.2.2)) (fuel - redrawCount h) { s with ent := rest, draws := s.draws + redrawCount h } := by
  induction hh generalizing fuel s with
  | nil =>
    obtain rfl : s.ent = rest := hent
    rfl
  | @cons r w tab h hw _ ih =>
    have hcount : redrawCount (w :: h) = w.2.1.length + redrawCount h := by simp [redrawCount]
    rw [← lfsrThreshold_toNat] at hw
    have hword := resampleWord_kept hW N (lfsrThreshold r) w.2.1 w.1 w.2.2 fuel s (redraws h ++ rest) hw
      (by rw [hent, redraws, List.flatMap_cons, List.append_assoc]; rfl) (by omega)
    have hlater := ih (fuel := fuel - w.2.1.length)
      (s := { s with ent := redraws h ++ rest, draws := s.draws + w.2.1.length }) rfl (by omega)
    simp only [List.map_cons, List.zip_cons_cons, resampleWords, hword, hlater, hcount, Nat.sub_sub, Nat.add_assoc]

/-- Words that are kept: the first one is, and then the others are. -/
theorem resampleWords_cons_kept {T : BitVec W} {v : Vec W} {l : List (BitVec W × Vec W)} {fuel left : Nat} {s t : State}
    {ws : List (Vec W)} (h : resampleWords N fuel ((T, v) :: l) s = .kept ws left t) :
    ∃ w m u us, resampleWord N T fuel v s = .kept w m u ∧ resampleWords N m l u = .kept us left t ∧ ws = w :: us := by
  rw [resampleWords] at h
  cases hw : resampleWord N T fuel v s with
  | failed c u => simp [hw] at h
  | never u => simp [hw] at h
  | kept w m u =>
    simp only [hw] at h
    cases hus : resampleWords N m l u with
    | failed c t' => simp [hus] at h
    | never t' => simp [hus] at h
    | kept us left' t' =>
      simp only [hus, WordEnd.kept.injEq] at h
      obtain ⟨rfl, rfl, rfl⟩ := h
      exact ⟨w, m, u, us, rfl, hus, rfl⟩

/-- A failure after words that are kept. -/
theorem resampleWords_append_failed {l : List (BitVec W × Vec W)} {T : BitVec W} {v : Vec W}
    {later : List (BitVec W × Vec W)} {fuel left : Nat} {s t u : State} {ws : List (Vec W)} {c : BitVec 32}
    (hl : resampleWords N fuel l s = .kept ws left t) (hv : resampleWord N T left v t = .failed c u) :
    resampleWords N fuel (l ++ (T, v) :: later) s = .failed c u := by
  induction l generalizing fuel s ws with
  | nil =>
    cases hl
    rw [List.nil_append, resampleWords, hv]
  | cons p l ih =>
    obtain ⟨T', v'⟩ := p
    obtain ⟨w, m, s', us, hw, hus, -⟩ := resampleWords_cons_kept hl
    rw [List.cons_append, resampleWords, hw]
    simp only [ih hus]

/-- The state draw with the next answer listed: its words go into the loop over the words. -/
theorem lfsrSeed_ok (hW : W % 8 = 0) (mk : Vec W → LaneVec) {tab : List (LfsrRow W)} {ws : List (Vec W)}
    (hK : ws.length = tab.length) (hN : ∀ w ∈ ws, w.length = N) (fuel : Nat) {s : State} {rest : List EntAnswer}
    (hent : s.ent = .ok (ws.flatMap image) :: rest) :
    lfsrSeed mk tab N (fuel + 1) s =
      (resampleWords N fuel ((tab.map lfsrThreshold).zip ws) { s with ent := rest, draws := s.draws + 1 }).toSeed mk := by
  obtain ⟨hlen, hload⟩ := (seedWords_iff hW N tab.length _ ws).2 ⟨hK, hN, rfl⟩
  simp only [lfsrSeed, State.entDraw_ok hent hlen, hload]

variable {i : Instr} {c : Cfg} {mk : Vec W → LaneVec} {tab : List (LfsrRow W)} {s : State} {rest : List EntAnswer}

/-- SEED_RNG of an LFSR family with every word drawn until it is above its threshold (45_seeding.md R300, R324). -/
theorem State.seedRngLfsrWith_done (hW : W % 8 = 0) (hwf : i.wf = true) (he : s.err = .none)
    {h : List (Vec W × List (Vec W) × Vec W)} (hh : Histories N tab h)
    (hent : s.ent = .ok ((h.map (·.1)).flatMap image) :: (redraws h ++ rest)) :
    s.seedRngLfsrWith i c mk tab N = { s with
      cfg := c, valid := true, inst := { Inst.empty with S := (h.map (·.2.2)).map mk }
      ent := rest, draws := s.draws + 1 + redrawCount h } := by
  obtain ⟨fuel, hfuel, hle⟩ := State.answered_cons hent
  rw [List.length_append, redraws_length] at hle
  rw [State.seedRngLfsrWith, State.command_ok he hwf, hfuel,
    lfsrSeed_ok hW mk (by simpa using hh.length_eq.symm) hh.first_lengths fuel (s := s.dropInstance) hent,
    resampleWords_kept hW hh rfl (by omega)]
  rfl

/-- SEED_RNG of an LFSR family where a draw of a word fails, after words that are kept and rejected draws of the word at hand
(45_seeding.md R324, R345). -/
theorem State.seedRngLfsrWith_failed (hW : W % 8 = 0) (hwf : i.wf = true) (he : s.err = .none)
    {kept : List (Vec W × List (Vec W) × Vec W)} {row : LfsrRow W} {v : Vec W} {more later : List (Vec W)}
    {code : BitVec 32}
    (hh : Histories N (tab.take kept.length) kept)
    (hrow : tab[kept.length]? = some row) (hv : WordRejected N (2 ^ row.k.val - 1) v more)
    (hK : kept.length + 1 + later.length = tab.length) (hlater : ∀ u ∈ later, u.length = N)
    (hent : s.ent = .ok ((kept.map (·.1) ++ v :: later).flatMap image)
      :: (redraws kept ++ more.map (fun u => EntAnswer.ok (image u)) ++ .fail code :: rest)) :
    s.seedRngLfsrWith i c mk tab N = { s with
      cfg := ⟨0, 0⟩, valid := false, inst := Inst.empty
      err := .entropy, errcmd := encode i, entcode := code
      ent := rest, draws := s.draws + 1 + redrawCount kept + more.length + 1 } := by
  obtain ⟨fuel, hfuel, hle⟩ := State.answered_cons hent
  simp only [List.length_append, redraws_length, List.length_map, List.length_cons] at hle
  have hlanes : ∀ w ∈ kept.map (·.1) ++ v :: later, w.length = N :=
    List.forall_mem_append.2 ⟨hh.first_lengths, List.forall_mem_cons.2 ⟨(hv v (by simp)).1, hlater⟩⟩
  have htab : tab = tab.take kept.length ++ row :: tab.drop (kept.length + 1) := by
    obtain ⟨hlt, rfl⟩ := List.getElem?_eq_some_iff.1 hrow
    rw [← List.drop_eq_getElem_cons, List.take_append_drop]
  have hzip : (tab.map lfsrThreshold).zip (kept.map (·.1) ++ v :: later) =
      ((tab.take kept.length).map lfsrThreshold).zip (kept.map (·.1)) ++
        (lfsrThreshold row, v) :: ((tab.drop (kept.length + 1)).map lfsrThreshold).zip later := by
    conv_lhs => rw [htab, List.map_append, List.map_cons]
    rw [List.zip_append (by simpa using hh.length_eq), List.zip_cons_cons]
  rw [← lfsrThreshold_toNat] at hv
  rw [State.seedRngLfsrWith, State.command_ok he hwf, hfuel,
    lfsrSeed_ok hW mk (by simp; omega) hlanes fuel (s := s.dropInstance) hent, hzip,
    resampleWords_append_failed
      (resampleWords_kept hW hh (rest := more.map (fun u => EntAnswer.ok (image u)) ++ .fail code :: rest)
        (List.append_assoc ..) (by omega))
      (resampleWord_failed hW N _ more v _ _ code rest hv rfl (by omega))]
  rfl

/-- SEED_RNG of an LFSR family where the state draw fails (45_seeding.md R345). -/
theorem State.seedRngLfsrWith_failed_first (hwf : i.wf = true) (he : s.err = .none) {code : BitVec 32}
    (hent : s.ent = .fail code :: rest) :
    s.seedRngLfsrWith i c mk tab N = { s with
      cfg := ⟨0, 0⟩, valid := false, inst := Inst.empty
      err := .entropy, errcmd := encode i, entcode := code
      ent := rest, draws := s.draws + 1 } := by
  obtain ⟨fuel, hfuel, -⟩ := State.answered_cons hent
  rw [State.seedRngLfsrWith, State.command_ok he hwf, hfuel, lfsrSeed, State.entDraw_fail (s := s.dropInstance) hent]
  rfl

end

/-- SEED_RNG of an LFSR family whose first draw is above its thresholds (45_seeding.md R300, R324). -/
theorem State.seedRngLfsrWith_accepted {W N : Nat} (hW : W % 8 = 0) {i : Instr} {c : Cfg} {mk : Vec W → LaneVec}
    {tab : List (LfsrRow W)} {s : State} {rest : List EntAnswer} (hwf : i.wf = true) (he : s.err = .none)
    {ws : List (Vec W)} (hN : ∀ w ∈ ws, w.length = N) (ha : AboveThresholds tab ws)
    (hent : s.ent = .ok (ws.flatMap image) :: rest) :
    s.seedRngLfsrWith i c mk tab N = { s with
      cfg := c, valid := true, inst := { Inst.empty with S := ws.map mk }, ent := rest, draws := s.draws + 1 } := by
  have hredraws : redraws (ws.map fun w => (w, ([] : List (Vec W)), w)) = [] := by simp [redraws]
  have hcount : redrawCount (ws.map fun w => (w, ([] : List (Vec W)), w)) = 0 := by
    rw [← redraws_length, hredraws, List.length_nil]
  rw [State.seedRngLfsrWith_done hW hwf he (ha.histories hN) (rest := rest)
    (by simp [hredraws, hent, Function.comp_def]), hcount]
  simp [Function.comp_def]

theorem exec_seedRngLfsr113 (n : Lanes) (s : State) : exec (.seedRngLfsr113 n) s =
    .next (s.seedRngLfsrWith (.seedRngLfsr113 n) (cfgOf .lfsr113 n) .u32 s.par.lfsr113Tab.toList n.count) := rfl

theorem exec_seedRngLfsr258 (n : Lanes) (s : State) : exec (.seedRngLfsr258 n) s =
    .next (s.seedRngLfsrWith (.seedRngLfsr258 n) (cfgOf .lfsr258 n) .u64 s.par.lfsr258Tab.toList n.count) := rfl

/-- SEED_RNG of every family whose first draw is accepted (45_seeding.md R300, R303, R324). -/
theorem exec_seedRng_first {f : Fam} {n : Lanes} {s : State} {b : List Byte} {S : List LaneVec} {rest : List EntAnswer}
    (hadm : f.admits n = true) (he : s.err = .none) (hb : SeedLoads s.par f n b S) (ha : Accepted s.par f n S)
    (hent : s.ent = .ok b :: rest) :
    exec (Instr.seedRng f n) s = .next { s with
      cfg := cfgOf f n, valid := true, inst := { Inst.empty with S := S }, ent := rest, draws := s.draws + 1 } := by
  by_cases h1 : f = .lfsr113
  · subst h1
    obtain ⟨⟨-, hs⟩, rfl⟩ := hb
    obtain ⟨ws, rfl, hN⟩ := shaped32 hs
    rw [Accepted, map_as32_u32] at ha
    rw [stateBytes_u32] at hent
    exact congrArg Host.Outcome.next (State.seedRngLfsrWith_accepted (by decide) rfl he hN ha hent)
  by_cases h2 : f = .lfsr258
  · subst h2
    obtain ⟨⟨-, hs⟩, rfl⟩ := hb
    obtain ⟨ws, rfl, hN⟩ := shaped64 hs
    rw [Accepted, map_as64_u64] at ha
    rw [stateBytes_u64] at hent
    exact congrArg Host.Outcome.next (State.seedRngLfsrWith_accepted (by decide) rfl he hN ha hent)
  · exact exec_seedRng_done (rejected := []) h1 h2 hadm he (by simp) hb ha hent

/-! ## SEED_RNG of the zero-avoiding families and of those without a test (45_seeding.md R310 to R337) -/

/-- A zero-avoiding family loads a seed image as it stands (20_memory.md R64). -/
theorem seedLoads_zeroAvoiding {p : Params} {f : Fam} {n : Lanes} {S : List LaneVec}
    (hf : avoidsZero f = true ∨ (f = .mwc ∧ p.mwcZeroAvoid = true)) (hS : Shaped p f n S) :
    SeedLoads p f n (stateBytes S) S := by
  cases f
  case xorshift32 | xorshift128 | xorshift128plus | xoroshiro128ss | xoshiro128ss | xoshiro256ss | xoshiro512ss | mwc =>
    exact ⟨hS, rfl⟩
  all_goals simp [avoidsZero] at hf

/-- What the test of a zero-avoiding family asks (45_seeding.md R303, R326). -/
theorem accepted_zeroAvoiding_iff {p : Params} {f : Fam} {n : Lanes} {S : List LaneVec}
    (hf : avoidsZero f = true ∨ (f = .mwc ∧ p.mwcZeroAvoid = true)) :
    Accepted p f n S ↔ ∀ j < n.count, ¬ Degenerate S j := by
  cases f
  case xorshift32 | xorshift128 | xorshift128plus | xoroshiro128ss | xoshiro128ss | xoshiro256ss | xoshiro512ss =>
    exact Iff.rfl
  case mwc =>
    have hm : p.mwcZeroAvoid = true := by simpa [avoidsZero] using hf
    exact ⟨fun h => h hm, fun h _ => h⟩
  all_goals simp [avoidsZero] at hf

/-- A family that avoids no zero lane and is no LFSR has no test (45_seeding.md R304). -/
theorem accepted_of_untested {p : Params} {f : Fam} (hz : avoidsZero f = false) (h1 : f ≠ .lfsr113) (h2 : f ≠ .lfsr258)
    (hm : f = .mwc → p.mwcZeroAvoid = false) (n : Lanes) (S : List LaneVec) : Accepted p f n S := by
  cases f
  case mwc => exact fun h => absurd h (by simp [hm rfl])
  case lfsr113 => exact absurd rfl h1
  case lfsr258 => exact absurd rfl h2
  case xorshift32 | xorshift128 | xorshift128plus | xoroshiro128ss | xoshiro128ss | xoshiro256ss | xoshiro512ss =>
    exact absurd hz (by decide)
  all_goals exact trivial

/-- Settles O38: the draws with a degenerate lane are those that the rules reject. -/
theorem seedRngRedrawsUntilNoLaneIsDegenerate : Obligations.SeedRngRedrawsUntilNoLaneIsDegenerate := by
  intro f n s rejected S rest hf hadm he hrej hS hdeg hent
  have h1 : f ≠ .lfsr113 := by rintro rfl; simp [avoidsZero] at hf
  have h2 : f ≠ .lfsr258 := by rintro rfl; simp [avoidsZero] at hf
  have hr : ∀ b ∈ rejected.map stateBytes, ∃ R, SeedLoads s.par f n b R ∧ ¬ Accepted s.par f n R := by
    intro b hb
    obtain ⟨R, hR, rfl⟩ := List.mem_map.1 hb
    obtain ⟨hshape, j, hj, hz⟩ := hrej R hR
    exact ⟨R, seedLoads_zeroAvoiding hf hshape, fun ha => (accepted_zeroAvoiding_iff hf).1 ha j hj hz⟩
  have := exec_seedRng_done h1 h2 hadm he hr (seedLoads_zeroAvoiding hf hS)
    ((accepted_zeroAvoiding_iff hf).2 hdeg) (rest := rest) (by rw [hent, List.map_map]; rfl)
  rwa [List.length_map] at this

/-- Settles O39: the first draw is accepted, as these families have no test. -/
theorem seedRngTakesTheFirstDrawWithItsFixup : Obligations.SeedRngTakesTheFirstDrawWithItsFixup := by
  intro f n s bytes S rest hz h1 h2 hm hadm he hloads hent
  exact exec_seedRng_first hadm he hloads (accepted_of_untested hz h1 h2 hm n S) hent

/-- Settles O40, by the histories of the words, one after another. -/
theorem seedRngLfsrRedrawsWordByWord : Obligations.SeedRngLfsrRedrawsWordByWord := by
  constructor
  · intro n s h rest he hh hent
    have hent' : s.ent = .ok ((h.map (·.1)).flatMap image) :: (redraws h ++ rest) := by
      rw [hent, ← stateBytes_u32, List.map_map]; rfl
    rw [exec_seedRngLfsr113, State.seedRngLfsrWith_done (by decide) rfl he hh hent', List.map_map]
    rfl
  · intro n s h rest he hh hent
    have hent' : s.ent = .ok ((h.map (·.1)).flatMap image) :: (redraws h ++ rest) := by
      rw [hent, ← stateBytes_u64, List.map_map]; rfl
    rw [exec_seedRngLfsr258, State.seedRngLfsrWith_done (by decide) rfl he hh hent', List.map_map]
    rfl

/-! ## SEED_BLOCKS (45_seeding.md R339 to R341) -/

/-- One lane's words as the vectors of the jump, and the rules of one lane for the steps on them (45_seeding.md R339). -/
structure JumpsAs {L : Type} (cols : L → List (Vec 64)) (step : List (Vec 64) → List (Vec 64)) (add : L → L → L)
    (next : L → L) (zero : L) : Prop where
  xor : ∀ x y, List.zipWith vxor (cols x) (cols y) = cols (add x y)
  step : ∀ x, step (cols x) = cols (next x)
  zero : ∀ x, (cols x).map (vsplat 0) = cols zero

section
variable {L : Type} {cols : L → List (Vec 64)} {step : List (Vec 64) → List (Vec 64)} {add : L → L → L}
  {next : L → L} {zero : L}

/-- One word of the polynomial (45_seeding.md R339). -/
theorem jumpWord_cols (h : JumpsAs cols step add next zero) (P : BitVec 64) (p : L × L) :
    jumpWord step (Prod.map cols cols p) P = Prod.map cols cols
      (((List.range 64).map P.getLsbD).foldl (fun p b => (if b then add p.1 p.2 else p.1, next p.2)) p) := by
  rw [List.foldl_map, jumpWord]
  refine List.foldl_hom _ fun p b => ?_
  simp only [jumpBit, Prod.map, h.xor, h.step]
  split <;> rfl

/-- The jump is the rule's on one lane (45_seeding.md R339). -/
theorem jump_cols (h : JumpsAs cols step add next zero) (poly : List (BitVec 64)) (x : L) :
    jump poly step (cols x) = cols (Ref.jump add next zero (Ref.polyBits poly) x) := by
  rw [jump, h.zero, Ref.jump, Ref.polyBits, List.foldl_flatMap]
  exact congrArg Prod.fst (List.foldl_hom (Prod.map cols cols) (init := (zero, x)) fun p P => jumpWord_cols h P p)

/-- The scalar jumped 0, 1, … times (45_seeding.md R340). -/
theorem orbit_cols {jmp : List (Vec 64) → List (Vec 64)} {move : L → L} (h : ∀ x, jmp (cols x) = cols (move x))
    (N : Nat) (x : L) : orbit jmp N (cols x) = (List.iterate move x N).map cols := by
  induction N generalizing x with
  | zero => rfl
  | succ N ih => rw [orbit, h, ih]; rfl

end

/-- One lane of two words as two vectors of one lane. -/
def oneLanePair (l : Ref.Two 64) : List (Vec 64) := [[l.a], [l.b]]

/-- One lane of four words as four vectors of one lane. -/
def oneLaneQuad (l : Ref.Four 64) : List (Vec 64) := [[l.a], [l.b], [l.c], [l.d]]

/-- The vectors of the lanes `ls`, word after word (45_seeding.md R340). -/
theorem oneLanePair_words (ls : List (Ref.Two 64)) :
    ((List.range 2).map fun k => (ls.map oneLanePair).flatMap fun lane => lane.getD k []).map LaneVec.u64 = pair64 ls := by
  have hcol : ∀ g : Ref.Two 64 → BitVec 64, ls.map g = ls.flatMap fun l => [g l] := fun _ => List.map_eq_flatMap
  simp only [pair64, hcol, List.flatMap_map]
  rfl

/-- The vectors of the lanes `ls`, word after word (45_seeding.md R340). -/
theorem oneLaneQuad_words (ls : List (Ref.Four 64)) :
    ((List.range 4).map fun k => (ls.map oneLaneQuad).flatMap fun lane => lane.getD k []).map LaneVec.u64 = quad64 ls := by
  have hcol : ∀ g : Ref.Four 64 → BitVec 64, ls.map g = ls.flatMap fun l => [g l] := fun _ => List.map_eq_flatMap
  simp only [quad64, hcol, List.flatMap_map]
  rfl

theorem xoroshiro128_jumpsAs :
    JumpsAs oneLanePair xoroshiro128Next Ref.Two.xor Ref.xoroshiro128 ⟨0, 0⟩ where
  xor _ _ := rfl
  step x := by
    have := xoroshiro128_map [x]
    simp only [List.map_cons, List.map_nil] at this
    simp only [oneLanePair, xoroshiro128Next, this]
  zero _ := rfl

theorem xoshiro256_jumpsAs :
    JumpsAs oneLaneQuad xoshiro256Next Ref.Four.xor (Ref.xoshiro4 17 45) ⟨0, 0, 0, 0⟩ where
  xor _ _ := rfl
  step x := by
    have := xoshiro4_map 17 45 (by decide) [x]
    simp only [List.map_cons, List.map_nil] at this
    simp only [oneLaneQuad, xoshiro256Next, this]
  zero _ := rfl

/-- Lane j of SEED_BLOCKS.XOROSHIRO128SS is the scalar jumped j times (45_seeding.md R340). -/
theorem spread_xoroshiro128 (p : Params) (N : Nat) (t : Ref.Two 64) :
    (spread (jump p.xoroshiroJump.toList xoroshiro128Next) N (oneLanePair t)).map LaneVec.u64 =
      pair64 ((List.range N).map fun j => (Ref.xoroshiroJump p)^[j] t) := by
  have hmove : ∀ x, jump p.xoroshiroJump.toList xoroshiro128Next (oneLanePair x) = oneLanePair (Ref.xoroshiroJump p x) :=
    jump_cols xoroshiro128_jumpsAs _
  rw [spread, orbit_cols hmove, List.range_map_iterate]
  exact oneLanePair_words _

/-- Lane j of SEED_BLOCKS.XOSHIRO256SS is the scalar jumped j times (45_seeding.md R341). -/
theorem spread_xoshiro256 (p : Params) (N : Nat) (t : Ref.Four 64) :
    (spread (jump p.xoshiro256Jump.toList xoshiro256Next) N (oneLaneQuad t)).map LaneVec.u64 =
      quad64 ((List.range N).map fun j => (Ref.xoshiro256Jump p)^[j] t) := by
  have hmove : ∀ x, jump p.xoshiro256Jump.toList xoshiro256Next (oneLaneQuad x) = oneLaneQuad (Ref.xoshiro256Jump p x) :=
    jump_cols xoshiro256_jumpsAs _
  rw [spread, orbit_cols hmove, List.range_map_iterate]
  exact oneLaneQuad_words _

/-- A scalar of all-zero bytes (45_seeding.md R340). -/
theorem stateBytes_zeros (K : Nat) : stateBytes (List.replicate K (.u64 [0])) = List.replicate (8 * K) 0 := by
  have himage : LaneVec.image (.u64 [0]) = List.replicate 8 0 := by decide
  induction K with
  | zero => rfl
  | succ K ih =>
    rw [List.replicate_succ, stateBytes, List.flatMap_cons, ← stateBytes, ih, himage, List.replicate_append_replicate,
      Nat.mul_succ, Nat.add_comm]

/-- What the scalar's test asks (45_seeding.md R340). -/
theorem noLaneDegenerate_scalar_iff {K : Nat} (hK : 0 < K) {S : List LaneVec}
    (hS : S.length = K ∧ ∀ w ∈ S, w.Shaped 64 1) : noLaneDegenerate S = true ↔ ¬ Degenerate S 0 := by
  obtain ⟨hlen, hs⟩ := hS
  have hne : S ≠ [] := List.ne_nil_of_length_pos (hlen ▸ hK)
  rw [noLaneDegenerate_iff S hne]
  refine ⟨fun h => h 0, fun h j => ?_⟩
  cases j with
  | zero => exact h
  | succ j => exact not_degenerate_of_ge hne hs (by omega)

section
variable {K N m : Nat} {i : Instr} {c : Cfg} {poly : List (BitVec 64)} {step : List (Vec 64) → List (Vec 64)}
  {s : State} {rest : List EntAnswer}

/-- The scalar that a draw of the right length loads (45_seeding.md R340). -/
theorem procScalar_load {S : List LaneVec} (hS : S.length = K ∧ ∀ w ∈ S, w.Shaped 64 1) :
    (stateBytes S).length = (procScalar K).sb ∧ (procScalar K).load (stateBytes S) = S := by
  obtain ⟨hlen, hload⟩ := (load64_iff K 1 _ S).2 ⟨hS, rfl⟩
  exact ⟨by rw [hlen, Nat.one_mul, Nat.mul_comm]; rfl, hload⟩

/-- The all-zero scalars are drawn again (45_seeding.md R340). -/
theorem procScalar_rejects_zeros (hK : 0 < K) :
    ∀ r ∈ List.replicate m (List.replicate (8 * K) (0 : Byte)), r.length = (procScalar K).sb ∧
      (procScalar K).accept ((procScalar K).load r) = false := by
  intro r hr
  have hS : (List.replicate K (LaneVec.u64 [0])).length = K ∧
      ∀ w ∈ List.replicate K (LaneVec.u64 [0]), w.Shaped 64 1 :=
    ⟨List.length_replicate, fun w hw => List.eq_of_mem_replicate hw ▸ ⟨rfl, rfl⟩⟩
  obtain ⟨hlen, hload⟩ := procScalar_load hS
  rw [List.eq_of_mem_replicate hr, ← stateBytes_zeros, hload]
  refine ⟨hlen, Bool.eq_false_iff.2 fun h => (noLaneDegenerate_scalar_iff hK hS).1 h fun w hw => ?_⟩
  rw [List.eq_of_mem_replicate hw]
  rfl

/-- SEED_BLOCKS after all-zero scalars (45_seeding.md R300, R340). -/
theorem State.seedBlocksWith_done (hK : 0 < K) (hwf : i.wf = true) (he : s.err = .none) {S : List LaneVec}
    (hS : S.length = K ∧ ∀ w ∈ S, w.Shaped 64 1) (hz : ¬ Degenerate S 0)
    (hent : s.ent = List.replicate m (.ok (List.replicate (8 * K) 0)) ++ .ok (stateBytes S) :: rest) :
    s.seedBlocksWith i c K N poly step = { s with
      cfg := c, valid := true
      inst := { Inst.empty with S := (spread (jump poly step) N (S.map LaneVec.as64)).map .u64 }
      ent := rest, draws := s.draws + m + 1 } := by
  obtain ⟨hlen, hload⟩ := procScalar_load hS
  have hloop := seedLoop_done (procScalar K) (List.replicate m (List.replicate (8 * K) 0)) (stateBytes S) rest s.answered
    s.dropInstance (procScalar_rejects_zeros hK) hlen (hload.symm ▸ (noLaneDegenerate_scalar_iff hK hS).2 hz)
    (by rw [List.map_replicate]; exact hent) (by simpa using s.lt_answered hent)
  rw [State.seedBlocksWith, State.command_ok he hwf, hloop, hload, List.length_replicate]
  rfl

/-- SEED_BLOCKS where a draw fails after all-zero scalars (45_seeding.md R345). -/
theorem State.seedBlocksWith_failed (hK : 0 < K) (hwf : i.wf = true) (he : s.err = .none) {code : BitVec 32}
    (hent : s.ent = List.replicate m (.ok (List.replicate (8 * K) 0)) ++ .fail code :: rest) :
    s.seedBlocksWith i c K N poly step = { s with
      cfg := ⟨0, 0⟩, valid := false, inst := Inst.empty
      err := .entropy, errcmd := encode i, entcode := code
      ent := rest, draws := s.draws + m + 1 } := by
  have hloop := seedLoop_failed (procScalar K) (List.replicate m (List.replicate (8 * K) 0)) code rest s.answered
    s.dropInstance (procScalar_rejects_zeros hK) (by rw [List.map_replicate]; exact hent)
    (by simpa using s.lt_answered hent)
  rw [State.seedBlocksWith, State.command_ok he hwf, hloop, List.length_replicate]
  rfl

end

theorem exec_seedBlocksXoroshiro128ss (n : Lanes) (s : State) : exec (.seedBlocksXoroshiro128ss n) s =
    .next (s.seedBlocksWith (.seedBlocksXoroshiro128ss n) (cfgOf .xoroshiro128ss n) 2 n.count
      s.par.xoroshiroJump.toList xoroshiro128Next) := rfl

theorem exec_seedBlocksXoshiro256ss (n : Lanes) (s : State) : exec (.seedBlocksXoshiro256ss n) s =
    .next (s.seedBlocksWith (.seedBlocksXoshiro256ss n) (cfgOf .xoshiro256ss n) 4 n.count
      s.par.xoshiro256Jump.toList xoshiro256Next) := rfl

/-- Settles O42: the jump on vectors of one lane is the rule's on that lane, and its orbit is spread over the lanes. -/
theorem seedBlocksPlacesLanesAJumpApart : Obligations.SeedBlocksPlacesLanesAJumpApart := by
  constructor
  · intro n s m t rest he ht hent
    have hz : ¬ Degenerate (pair64 [t]) 0 := fun h => ht (Option.some.inj (degenerate_pair64.1 h))
    rw [exec_seedBlocksXoroshiro128ss,
      State.seedBlocksWith_done (by decide) rfl he (shaped_pair64.2 ⟨[t], rfl, rfl⟩) hz hent, ← spread_xoroshiro128]
    rfl
  · intro n s m t rest he ht hent
    have hz : ¬ Degenerate (quad64 [t]) 0 := fun h => ht (Option.some.inj (degenerate_quad64.1 h))
    rw [exec_seedBlocksXoshiro256ss,
      State.seedBlocksWith_done (by decide) rfl he (shaped_quad64.2 ⟨[t], rfl, rfl⟩) hz hent, ← spread_xoshiro256]
    rfl

/-- Settles O43: the commands of these families share one meaning, the error alone. -/
theorem seedBlocksOfOtherFamiliesIsUnsupported : Obligations.SeedBlocksOfOtherFamiliesIsUnsupported := by
  intro f n s h1 h2 hadm he
  rw [exec_seedBlocks_unsupported h1 h2, State.seedBlocksUnsupported,
    State.command_ok he ((wf_seedBlocks f n).trans hadm)]
  rfl

/-- Settles O41: a failure in each of the three loops. -/
theorem aFailedDrawLeavesNoInstance : Obligations.AFailedDrawLeavesNoInstance := by
  refine ⟨?_, ?_, ?_, ?_⟩
  · intro f n s rejected code rest hadm he hlfsr hrej hent
    by_cases hl : f = .lfsr113 ∨ f = .lfsr258
    · obtain rfl := hlfsr hl
      rcases hl with rfl | rfl
      · exact congrArg Host.Outcome.next (State.seedRngLfsrWith_failed_first rfl he hent)
      · exact congrArg Host.Outcome.next (State.seedRngLfsrWith_failed_first rfl he hent)
    · obtain ⟨h1, h2⟩ := not_or.1 hl
      exact exec_seedRng_failed h1 h2 hadm he hrej hent
  · intro n s kept row v more later code rest he hh hrow hv hK hlater hent
    rw [stateBytes_u32] at hent
    rw [exec_seedRngLfsr113, State.seedRngLfsrWith_failed (by decide) rfl he hh hrow hv hK hlater hent]
  · intro n s kept row v more later code rest he hh hrow hv hK hlater hent
    rw [stateBytes_u64] at hent
    rw [exec_seedRngLfsr258, State.seedRngLfsrWith_failed (by decide) rfl he hh hrow hv hK hlater hent]
  · intro f n s m code rest hf he hent
    rcases hf with rfl | rfl
    · exact congrArg Host.Outcome.next (State.seedBlocksWith_failed (K := 2) (by decide) rfl he hent)
    · exact congrArg Host.Outcome.next (State.seedBlocksWith_failed (K := 4) (by decide) rfl he hent)

/-! ## SEED_FIXED (45_seeding.md R343) -/

/-- SEED_FIXED where the family's procedure takes the FIFO's bytes (45_seeding.md R343). -/
theorem exec_seedFixed_taken {f : Fam} {n : Lanes} {s : State} (hadm : f.admits n = true) (he : s.err = .none)
    (hf : f ∈ s.par.fixedSeed) (hlen : s.fifo.length = (seedProcOf s.par f n).sb)
    (hacc : (seedProcOf s.par f n).accept ((seedProcOf s.par f n).load s.fifo) = true) :
    exec (Instr.seedFixed f n) s = .next { s with
      cfg := cfgOf f n, valid := true, inst := { Inst.empty with S := (seedProcOf s.par f n).load s.fifo }
      fifo := [] } := by
  rw [exec_seedFixed]
  rcases State.seedFixedWith_cases he ((wf_seedFixed f n).trans hadm) f (cfgOf f n) (seedProcOf s.par f n) with
    ⟨hno, -⟩ | ⟨-, hbad, -⟩ | ⟨-, -, -, hx⟩
  · exact absurd hf hno
  · simp [hlen, hacc] at hbad
  · rw [hx]; rfl

/-- Settles O44: an image that the rules accept is one that the procedure takes. -/
theorem seedFixedMakesTheInstanceOfItsBytes : Obligations.SeedFixedMakesTheInstanceOfItsBytes := by
  intro f n s S hadm he hf hloads ha
  obtain ⟨hlen, rfl, hacc⟩ := hloads.taken ha
  exact exec_seedFixed_taken hadm he hf hlen hacc

/-- Settles O45: of what SEED_FIXED can do, an accepted image is the one end that is no error. -/
theorem seedFixedRefusesBadSeeds : Obligations.SeedFixedRefusesBadSeeds := by
  intro f n s hadm he
  rw [exec_seedFixed]
  rcases State.seedFixedWith_cases he ((wf_seedFixed f n).trans hadm) f (cfgOf f n) (seedProcOf s.par f n) with
    ⟨hno, hx⟩ | ⟨hf, -, hx⟩ | ⟨hf, hlen, hacc, -⟩
  · exact ⟨fun _ => by rw [hx]; rfl, fun hf => absurd hf hno⟩
  · exact ⟨fun hno => absurd hf hno, fun _ _ => by rw [hx]; rfl⟩
  · refine ⟨fun hno => absurd hf hno, fun _ hbad => ?_⟩
    rcases hbad with hne | ⟨S, hloads, hna⟩
    · exact absurd (hlen.trans (seedProcOf_sb _ f n)) hne
    · simp [(hloads.rejected hna).2] at hacc

/-! ## SEED_RNG and SEED_FIXED on the same bytes (45_seeding.md R343) -/

/-- The loop makes at least one draw before it accepts. -/
theorem seedLoop_draws_lt {p : SeedProc} {fuel : Nat} {s t : State} {S : List LaneVec}
    (h : seedLoop p fuel s = .done S t) : s.draws < t.draws := by
  induction fuel generalizing s with
  | zero => simp [seedLoop] at h
  | succ fuel ih =>
    rw [seedLoop] at h
    rcases hr : s.entDraw p.sb with ⟨r, s'⟩
    have hd : s'.draws = s.draws + 1 := by simpa [hr] using s.entDraw_draws p.sb
    rw [hr] at h
    cases r with
    | fail c => simp at h
    | ok b =>
      by_cases ha : p.accept (p.load b) = true
      · simp only [ha, if_true, SeedEnd.done.injEq] at h
        obtain ⟨-, rfl⟩ := h
        omega
      · simp only [ha] at h
        have := ih h
        omega

/-- A loop that ends in one draw has accepted its first answer. -/
theorem seedLoop_one_draw {p : SeedProc} {fuel : Nat} {s t : State} {S : List LaneVec} {b : List Byte}
    {rest : List EntAnswer} (hent : s.ent = .ok b :: rest) (hb : b.length = p.sb)
    (h : seedLoop p (fuel + 1) s = .done S t) (hd : t.draws = s.draws + 1) :
    p.accept (p.load b) = true ∧ S = p.load b ∧ t = { s with ent := rest, draws := s.draws + 1 } := by
  simp only [seedLoop, State.entDraw_ok hent hb] at h
  by_cases ha : p.accept (p.load b) = true
  · simp only [ha, if_true, SeedEnd.done.injEq] at h
    exact ⟨ha, h.1.symm, h.2.symm⟩
  · simp only [ha] at h
    have := seedLoop_draws_lt h
    simp only at this
    omega

section
variable {W N : Nat}

/-- The loop of a word makes at least one draw before it keeps one. -/
theorem redrawWord_draws_lt {T : BitVec W} {fuel left : Nat} {s t : State} {v : Vec W}
    (h : redrawWord N T fuel s = .kept v left t) : s.draws < t.draws := by
  induction fuel generalizing s with
  | zero => simp [redrawWord] at h
  | succ fuel ih =>
    rw [redrawWord] at h
    rcases hr : s.entDraw (N * (W / 8)) with ⟨r, s'⟩
    have hd : s'.draws = s.draws + 1 := by simpa [hr] using s.entDraw_draws (N * (W / 8))
    rw [hr] at h
    cases r with
    | fail c => simp at h
    | ok b =>
      by_cases ha : atOrBelow T (le W N b) = true
      · simp only [ha, if_true] at h
        have := ih h
        omega
      · simp only [ha] at h
        cases h
        omega

/-- A word that is kept is the one at hand, or has taken a draw. -/
theorem resampleWord_kept_cases {T : BitVec W} {fuel left : Nat} {s t : State} {v w : Vec W}
    (h : resampleWord N T fuel v s = .kept w left t) : (w = v ∧ t = s) ∨ s.draws < t.draws := by
  unfold resampleWord at h
  split at h
  · exact .inr (redrawWord_draws_lt h)
  · cases h
    exact .inl ⟨rfl, rfl⟩

/-- The words that are kept are those at hand, or have taken a draw. -/
theorem resampleWords_kept_cases {l : List (BitVec W × Vec W)} {fuel left : Nat} {s t : State} {ws : List (Vec W)}
    (h : resampleWords N fuel l s = .kept ws left t) : (ws = l.map (·.2) ∧ t = s) ∨ s.draws < t.draws := by
  induction l generalizing fuel s ws with
  | nil => cases h; exact .inl ⟨rfl, rfl⟩
  | cons p l ih =>
    obtain ⟨T, v⟩ := p
    obtain ⟨w, m, u, us, hw, hus, rfl⟩ := resampleWords_cons_kept h
    rcases resampleWord_kept_cases hw with ⟨rfl, rfl⟩ | hlt <;> rcases ih hus with ⟨rfl, rfl⟩ | hlt'
    · exact .inl ⟨rfl, rfl⟩
    · exact .inr hlt'
    · exact .inr hlt
    · exact .inr (hlt.trans hlt')

/-- An LFSR seeding that ends in one draw has kept every word of it. -/
theorem lfsrSeed_one_draw {mk : Vec W → LaneVec} {lanes : LaneVec → Vec W} (hmk : ∀ v, lanes (mk v) = v)
    {tab : List (LfsrRow W)} {K fuel : Nat} (hK : tab.length = K) {s t : State} {S : List LaneVec} {b : List Byte}
    {rest : List EntAnswer} (hent : s.ent = .ok b :: rest) (hb : b.length = K * (N * (W / 8)))
    (h : lfsrSeed mk tab N (fuel + 1) s = .done S t) (hd : t.draws = s.draws + 1) :
    S = (seedWords W N K b).map mk ∧ aboveThresholds tab (S.map lanes) = true ∧
      t = { s with ent := rest, draws := s.draws + 1 } := by
  subst hK
  have habove : aboveThresholds tab (S.map lanes) = true := by
    obtain ⟨-, hwords, -⟩ := lfsrSeed_spec mk tab N (fuel + 1) s
    obtain ⟨ws, rfl, hlen, -, ha⟩ := hwords S t h
    have hlanes : (ws.map mk).map lanes = ws := by simp [Function.comp_def, hmk]
    rw [hlanes]
    exact (aboveThresholds_iff tab ws hlen).2 ha
  simp only [lfsrSeed, State.entDraw_ok hent hb] at h
  cases hr : resampleWords N fuel ((tab.map lfsrThreshold).zip (seedWords W N tab.length b))
      { s with ent := rest, draws := s.draws + 1 } with
  | failed c u => simp [hr, WordEnd.toSeed] at h
  | never u => simp [hr, WordEnd.toSeed] at h
  | kept ws left u =>
    simp only [hr, WordEnd.toSeed, SeedEnd.done.injEq] at h
    obtain ⟨rfl, rfl⟩ := h
    rcases resampleWords_kept_cases hr with ⟨rfl, rfl⟩ | hlt
    · refine ⟨?_, habove, rfl⟩
      rw [List.map_snd_zip (by simp)]
    · simp only at hlt
      omega

end

/-- A seeding that leaves an instance has ended in words that its loop accepts. -/
theorem SeedEnd.eq_done_of_valid {e : SeedEnd} {i : Instr} {c : Cfg} {post : List LaneVec → List LaneVec}
    (hd : e.state.valid = false) (hv : (e.finish i c post).valid = true) :
    ∃ S, e = .done S e.state ∧ e.finish i c post = e.state.install c (post S) := by
  rcases e.finish_cases i c post with hdone | ⟨code, -, hx⟩ | ⟨-, hx⟩
  · exact hdone
  · rw [hx, State.raise_valid, hd] at hv; cases hv
  · rw [hx] at hv; exact absurd (hd.symm.trans hv) (by decide)

theorem DrawnFrom.valid_dropInstance {s t : State} (h : DrawnFrom s.dropInstance t) : t.valid = false := by
  rw [h]; rfl

/-- SEED_RNG with the next answer listed, of SB bytes: where its loop ends in words with one draw, these are the words that
the bytes load, and they pass (45_seeding.md R300, R303, R324). -/
theorem exec_seedRng_one_draw {f : Fam} {n : Lanes} {s : State} {b : List Byte} {rest : List EntAnswer}
    (hadm : f.admits n = true) (he : s.err = .none) (hb : b.length = (seedProcOf s.par f n).sb)
    (hent : s.ent = .ok b :: rest) :
    ∃ e : SeedEnd, exec (Instr.seedRng f n) s = .next (e.finish (Instr.seedRng f n) (cfgOf f n) id) ∧
      DrawnFrom s.dropInstance e.state ∧
      ∀ S u, e = .done S u → u.draws = s.draws + 1 →
        S = (seedProcOf s.par f n).load b ∧ (seedProcOf s.par f n).accept S = true ∧
          u = { s.dropInstance with ent := rest, draws := s.draws + 1 } := by
  have hw : (Instr.seedRng f n).wf = true := (wf_seedRng f n).trans hadm
  have hent' : s.dropInstance.ent = .ok b :: rest := hent
  obtain ⟨fuel, hfuel, -⟩ := State.answered_cons hent
  have hlen := hb.trans (seedProcOf_sb s.par f n)
  by_cases h1 : f = .lfsr113
  · subst h1
    refine ⟨_, congrArg Host.Outcome.next (State.command_ok he hw _), (lfsrSeed_ends _ _ _ s).drawn, ?_⟩
    intro S u hdone hdraws
    exact lfsrSeed_one_draw (fun _ => rfl) (Vector.length_toList ..) hent' hlen (hfuel ▸ hdone) hdraws
  by_cases h2 : f = .lfsr258
  · subst h2
    refine ⟨_, congrArg Host.Outcome.next (State.command_ok he hw _), (lfsrSeed_ends _ _ _ s).drawn, ?_⟩
    intro S u hdone hdraws
    exact lfsrSeed_one_draw (fun _ => rfl) (Vector.length_toList ..) hent' hlen (hfuel ▸ hdone) hdraws
  · rw [exec_seedRng h1 h2, State.seedRngWith, State.command_ok he hw]
    refine ⟨_, rfl, (seedLoop_ends _ s).drawn, ?_⟩
    intro S u hdone hdraws
    rw [hfuel] at hdone
    obtain ⟨hacc, rfl, hu⟩ := seedLoop_one_draw hent' hb hdone hdraws
    exact ⟨rfl, hacc, hu⟩

/-- Settles O46: the first draw of SEED_RNG is tested as SEED_FIXED tests its bytes. -/
theorem seedFixedAgreesWithSeedRng : Obligations.SeedFixedAgreesWithSeedRng := by
  intro f n s t rest hadm he hf hlen hent hx hvalid hdraws
  have hsb : s.fifo.length = (seedProcOf s.par f n).sb := hlen.trans (seedProcOf_sb _ f n).symm
  obtain ⟨e, hx', hdrawn, hone⟩ := exec_seedRng_one_draw hadm he hsb hent
  obtain rfl : e.finish _ _ id = t := Host.Outcome.next.inj (hx'.symm.trans hx)
  obtain ⟨S, hdone, hfin⟩ := SeedEnd.eq_done_of_valid hdrawn.valid_dropInstance hvalid
  rw [hfin, State.install_draws] at hdraws
  obtain ⟨rfl, hacc, hu⟩ := hone S e.state hdone hdraws
  rw [hfin, hu]
  exact exec_seedFixed_taken hadm he hf hsb hacc

/-! ## The valid states (45_seeding.md R304, R346) -/

/-- A word that is odd is its own fixup (45_seeding.md R317). -/
theorem or_one_of_odd {W : Nat} {x : BitVec W} (h : x.getLsbD 0 = true) : x ||| 1 = x := by
  apply BitVec.eq_of_getLsbD_eq
  intro i hi
  cases i with
  | zero => simp [h]
  | succ i => simp [BitVec.getLsbD_one]

/-- A valid state is loaded by some seed image: its own, or, for the ChaCha families, its key's. It passes the fixups
unchanged (45_seeding.md R304, R317, R322, R332). -/
theorem ValidState.exists_seedLoads {p : Params} {f : Fam} {n : Lanes} {S : List LaneVec}
    (hv : ValidState p f n S) (hS : Shaped p f n S) : ∃ b, SeedLoads p f n b S ∧ Accepted p f n S := by
  cases f
  case pcg32 | pcg32Xsh | pcg32Xsl | lcg32 =>
    obtain ⟨ls, hN, rfl⟩ := shaped_pair64.1 hS
    have hfix : ∀ l ∈ ls, (⟨l.a, l.b ||| 1⟩ : Ref.Two 64) = l := fun l hl => by
      rw [or_one_of_odd (hv l.b (List.mem_map_of_mem hl))]
    exact ⟨_, ⟨ls, hN, rfl, congrArg pair64 ((List.map_congr_left hfix).trans ls.map_id).symm⟩, trivial⟩
  case lcg16 =>
    obtain ⟨ls, hN, rfl⟩ := shaped_pair32.1 hS
    have hfix : ∀ l ∈ ls, (⟨l.a, l.b ||| 1⟩ : Ref.Two 32) = l := fun l hl => by
      rw [or_one_of_odd (hv l.b (List.mem_map_of_mem hl))]
    exact ⟨_, ⟨ls, hN, rfl, congrArg pair32 ((List.map_congr_left hfix).trans ls.map_id).symm⟩, trivial⟩
  case jsf32 =>
    obtain ⟨ls, rfl, hbad⟩ := hv
    have hN : ls.length = n.count := (List.length_map _).symm.trans (hS.2 _ (List.mem_cons_self ..)).2
    have hfix : ∀ l ∈ ls, Ref.jsfFix p.jsf32Bad l = l := fun l hl => if_neg (hbad l hl)
    exact ⟨_, ⟨ls, hN, rfl, congrArg quad32 ((List.map_congr_left hfix).trans ls.map_id).symm⟩, trivial⟩
  case jsf64 =>
    obtain ⟨ls, rfl, hbad⟩ := hv
    have hN : ls.length = n.count := (List.length_map _).symm.trans (hS.2 _ (List.mem_cons_self ..)).2
    have hfix : ∀ l ∈ ls, Ref.jsfFix p.jsf64Bad l = l := fun l hl => if_neg (hbad l hl)
    exact ⟨_, ⟨ls, hN, rfl, congrArg quad64 ((List.map_congr_left hfix).trans ls.map_id).symm⟩, trivial⟩
  case chacha4 | chacha4f =>
    obtain ⟨key, hkey, rfl⟩ := hv
    exact ⟨_, ⟨key, hkey, rfl, rfl⟩, trivial⟩
  all_goals exact ⟨_, ⟨hS, rfl⟩, hv⟩

/-- Settles O47: an instance is left by a seeding that ended in accepted words only. -/
theorem seedingLeavesAValidState : Obligations.SeedingLeavesAValidState := by
  intro f n s t hadm he h32 h64 hx herr hvalid
  rcases hx with hx | hx
  · obtain ⟨e, hx', hends⟩ := exec_seedRng_ends f n s hadm he
    obtain rfl : e.finish _ _ id = t := Host.Outcome.next.inj (hx'.symm.trans hx)
    obtain ⟨S, hdone, hfin⟩ := SeedEnd.eq_done_of_valid hends.drawn.valid_dropInstance hvalid
    obtain ⟨hshape, hok⟩ := hends.words S e.state hdone
    have hpar : e.state.par = s.par := by rw [hends.drawn]; rfl
    rw [hfin, State.install_par, hpar]
    exact ⟨rfl, hshape, hok h32 h64, rfl⟩
  · rw [exec_seedFixed] at hx
    obtain rfl := Host.Outcome.next.inj hx
    rcases State.seedFixedWith_cases he ((wf_seedFixed f n).trans hadm) f (cfgOf f n) (seedProcOf s.par f n) with
      ⟨-, hx'⟩ | ⟨-, -, hx'⟩ | ⟨-, hlen, hacc, hx'⟩
    · rw [hx', State.raise_err] at herr; cases herr
    · rw [hx', State.raise_err] at herr; cases herr
    · obtain ⟨hshape, hok⟩ := seededWords_of_load hlen rfl hacc
      rw [hx']
      exact ⟨rfl, hshape, hok h32 h64, rfl⟩

/-- Settles O48: the seed image that loads the state is the first draw. -/
theorem seedingReachesEveryValidState : Obligations.SeedingReachesEveryValidState := by
  intro f n s S hadm he hS hv
  obtain ⟨b, hb, ha⟩ := hv.exists_seedLoads hS
  exact ⟨b, fun rest => exec_seedRng_first (s := { s with ent := .ok b :: rest }) hadm he hb ha rfl⟩

end Sys2Proof.Machine
end

section
/-! O36 and O37: FILL (46_byte_adapter.md R350 to R353). Every family's step puts out VB bytes on registers of its shape, and
leaves registers of that shape (`stepOf_putsOutChunks`). So FILL's loop is ⌈LEN / VB⌉ steps one after another, with their
bytes cut to LEN (`PutsOutChunks.fillLoop_eq`), and GENs one after another are the same steps with all their bytes. -/

namespace Sys2Proof.Machine

/-! ## The lanes of an output vector (40_lane_vector.md R145) -/

section
variable {W N : Nat}

theorem vadd_length_of {a b : Vec W} (ha : a.length = N) (hb : b.length = N) : (vadd a b).length = N := by
  simp [vadd_length, ha, hb]

theorem starstar_length (v : Vec W) : (starstar v).length = v.length := by
  simp [starstar, vmulc, vmul_length, vsplat_length, vrotl_length]

theorem pcgXorshift_length (old : Vec 64) : (pcgXorshift old).length = old.length := by
  simp [pcgXorshift, vtrunc_length, vshr_length, vxor_length]

theorem pcg32Out_length (old : Vec 64) : (pcg32Out old).length = old.length := by
  simp [pcg32Out, vrotrv_length, pcgXorshift_length, vtrunc_length, vshr_length]

theorem pcgXshOut_length (p : Params) (old : Vec 64) : (pcgXshOut p old).length = old.length := by
  unfold pcgXshOut
  split
  · exact pcgXorshift_length old
  · exact List.length_map _

theorem pcgXslOut_length (p : Params) (old : Vec 64) : (pcgXslOut p old).length = old.length := by
  unfold pcgXslOut
  split
  · simp [vtrunc_length, vshr_length, vxor_length]
  · exact List.length_map _

theorem lcg32Out_length (p : Params) (old : Vec 64) : (lcg32Out p old).length = old.length := by
  unfold lcg32Out
  split <;> simp [vtrunc_length, vshr_length]

theorem lcg16Out_length (p : Params) (old : Vec 32) : (lcg16Out p old).length = old.length := by
  unfold lcg16Out
  split <;> simp [vtrunc_length, vshr_length]

theorem jsf_output_length {X Z : Nat} {a b c d : Vec W}
    (h : a.length = N ∧ b.length = N ∧ c.length = N ∧ d.length = N) : (jsf X Z a b c d).2.2.2.length = N := by
  obtain ⟨-, -, -, hd⟩ := jsf_length (X := X) (Z := Z) h
  exact hd

theorem xorWords_length {ws : List (Vec W)} (hne : ws ≠ []) (h : ∀ w ∈ ws, w.length = N) : (xorWords ws).length = N := by
  match ws, hne with
  | w :: ws, _ =>
    refine List.foldlRecOn (motive := fun v => v.length = N) (w :: ws) vxor ?_ fun v hv x hx => ?_
    · rw [vsplat_length, h w List.mem_cons_self]
    · rw [vxor_length, hv, h x hx, Nat.min_self]

theorem lfsr_output_length {K : Nat} (tab : Vector (LfsrRow W) K) {s : Nat → Vec W} (hK : 0 < K)
    (hs : ∀ k < K, (s k).length = N) : (xorWords (lfsrWords tab.toList ((List.range K).map s))).length = N := by
  refine xorWords_length (fun hnil => ?_) (lfsrWords_lanes _ (map_range_length hs))
  exact hK.ne' ((lfsrWords_range_length tab s).symm.trans (congrArg List.length hnil))

theorem mwcMix_length (y : Vec 64) : (mwcMix y).length = y.length := by
  simp [mwcMix, vxor_length, vshl_length, vshr_length]

theorem sfcOut_length {a b counter : Vec W} (ha : a.length = N) (hb : b.length = N) (hc : counter.length = N) :
    (sfcOut a b counter).length = N :=
  vadd_length_of (vadd_length_of ha hb) hc

theorem xsm_output_length {K : Nat} {s : Nat → Vec W} (hK : 0 < K) (hs : (s 0).length = N) :
    (xsm K ((List.range K).map s)).2.length = N := by
  obtain ⟨K, rfl⟩ := Nat.exists_eq_succ_of_ne_zero hK.ne'
  simp [xsm, List.range_succ_eq_map, hs]

theorem repeated_doubleRound_length (r : RotTuple) (DR : Nat) {x : List (BitVec 32)} (hx : x.length = 16) :
    (repeated (doubleRound r) DR x).length = 16 := by
  induction DR generalizing x with
  | zero => exact hx
  | succ DR ih => exact ih (doubleRound_length r hx)

theorem chachaBlock_length (DR : Nat) (r : RotTuple) {c : Vec 32} (hc : c.length = 16) :
    (chachaBlock DR r c).length = 16 :=
  vadd_length_of (repeated_doubleRound_length r DR hc) hc

end

/-! ## VB: every step's image is one chunk (20_memory.md R67) -/

/-- What HoldsShape asks of the instance alone (10_state.md R22, R28). -/
def InShape (p : Params) (f : Fam) (n : Lanes) (i : Inst) : Prop :=
  Shaped p f n i.S ∧ (f = .aesrand → i.bufv = true → i.buf.length = 1)

theorem holdsShape_iff {s : State} {f : Fam} {n : Lanes} : HoldsShape s f n ↔ InShape s.par f n s.inst := Iff.rfl

theorem image_length_of {W N : Nat} {v : Vec W} (h : v.length = N) : (image v).length = W / 8 * N := by
  rw [image_length, h, Nat.mul_comm]

theorem stepAesrand_image_length (p : Params) {i : Inst} (hc : (i.s128 0).length = 1)
    (hb : i.bufv = true → i.buf.length = 1) : (stepAesrand p i).2.length = 16 := by
  cases h : i.bufv with
  | true => simp [stepAesrand, h, hb h]
  | false => simp [stepAesrand, h, hc]

/-- The image of a family's output vector has the bytes of R67's table. -/
theorem stepOf_image_length {p : Params} {f : Fam} {n : Lanes} {i : Inst} (hn : f.admits n = true)
    (h : InShape p f n i) : (stepOf p f i).2.length = chunkSize f n := by
  obtain ⟨⟨hK, hs⟩, hbuf⟩ := h
  cases f
  case xorshift32 => exact image_length_of ((xorshift32_length _).trans (Inst.s32_length hK hs (by simp [famWords])))
  case xorshift128 =>
    have l {k} (hk : k < 4) : (i.s32 k).length = n.count := Inst.s32_length hK hs hk
    exact image_length_of (xorshift128_length (l (by decide)) (l (by decide)))
  case xorshift128plus =>
    have l {k} (hk : k < 2) : (i.s64 k).length = n.count := Inst.s64_length hK hs hk
    exact image_length_of (vadd_length_of (l (by decide)) (l (by decide)))
  case xoshiro128ss => exact image_length_of ((starstar_length _).trans (Inst.s32_length hK hs (by simp [famWords])))
  case xoroshiro128ss | xoshiro256ss | xoshiro512ss =>
    exact image_length_of ((starstar_length _).trans (Inst.s64_length hK hs (by simp [famWords])))
  case pcg32 => exact image_length_of ((pcg32Out_length _).trans (Inst.s64_length hK hs (by simp [famWords])))
  case pcg32Xsh => exact image_length_of ((pcgXshOut_length p _).trans (Inst.s64_length hK hs (by simp [famWords])))
  case pcg32Xsl => exact image_length_of ((pcgXslOut_length p _).trans (Inst.s64_length hK hs (by simp [famWords])))
  case lcg32 => exact image_length_of ((lcg32Out_length p _).trans (Inst.s64_length hK hs (by simp [famWords])))
  case lcg16 => exact image_length_of ((lcg16Out_length p _).trans (Inst.s32_length hK hs (by simp [famWords])))
  case jsf32 => exact image_length_of (jsf_output_length (four_lengths (Inst.s32_length hK hs)))
  case jsf64 => exact image_length_of (jsf_output_length (four_lengths (Inst.s64_length hK hs)))
  case lfsr113 =>
    exact image_length_of (lfsr_output_length p.lfsr113Tab (by decide) fun _ => Inst.s32_length hK hs)
  case lfsr258 =>
    exact image_length_of (lfsr_output_length p.lfsr258Tab (by decide) fun _ => Inst.s64_length hK hs)
  case mwc =>
    have l0 : (i.s64 0).length = n.count := Inst.s64_length hK hs Nat.one_pos
    have hle : (i.s64 0).length ≤ p.mwcFactor.toList.length := by simpa [l0] using mwc_lanes_le hn
    exact image_length_of ((mwcMix_length _).trans ((mwcNext_length hle).trans l0))
  case sfc64 =>
    have l {k} (hk : k < 4) : (i.s64 k).length = n.count := Inst.s64_length hK hs hk
    exact image_length_of (sfcOut_length (l (by decide)) (l (by decide)) (l (by decide)))
  case sfc32 =>
    have l {k} (hk : k < 4) : (i.s32 k).length = n.count := Inst.s32_length hK hs hk
    exact image_length_of (sfcOut_length (l (by decide)) (l (by decide)) (l (by decide)))
  case sfc16 =>
    have l {k} (hk : k < 4) : (i.s16 k).length = n.count := Inst.s16_length hK hs hk
    exact image_length_of (sfcOut_length (l (by decide)) (l (by decide)) (l (by decide)))
  case xsm32 => exact image_length_of (xsm_output_length (xsmK_pos p) (Inst.s32_length hK hs (xsmK_pos p)))
  case xsm64 => exact image_length_of (xsm_output_length (xsmK_pos p) (Inst.s64_length hK hs (xsmK_pos p)))
  case chacha4 | chacha4f =>
    have hwords : i.chachaWords.length = 16 := by simp [Inst.chachaWords]
    exact image_length_of (chachaBlock_length _ _ hwords)
  case ars5 | ars7 =>
    have l {k} (hk : k < 2) : (i.s128 k).length = 1 := Inst.s128_length hK hs hk
    exact image_length_of (N := 1) (by rw [List.length_zipWith, l (by decide), l (by decide)]; rfl)
  case aesrand => exact stepAesrand_image_length p (Inst.s128_length hK hs Nat.one_pos) (hbuf rfl)
  case sselcg =>
    have l0 : (i.s32 0).length = 4 := Inst.s32_length hK hs Nat.one_pos
    exact image_length_of (N := 4) (by simp [vadd_length, vmul_length, l0])

/-- On every instance where `P` holds, the step puts out `VB` bytes and leaves an instance where `P` holds. -/
structure PutsOutChunks (step : StepFn) (VB : Nat) (P : Inst → Prop) : Prop where
  keeps : ∀ i, P i → P (step i).1
  image_length : ∀ i, P i → (step i).2.length = VB

theorem stepOf_putsOutChunks {f : Fam} {n : Lanes} (p : Params) (hn : f.admits n = true) :
    PutsOutChunks (stepOf p f) (chunkSize f n) (InShape p f n) where
  keeps i h := by
    obtain ⟨hshape, -⟩ := h
    refine ⟨stepOf_shaped hn hshape, ?_⟩
    rintro rfl
    obtain ⟨hK, hs⟩ := hshape
    exact stepAesrand_buf_length p (Inst.s128_length hK hs Nat.one_pos)
  image_length i h := stepOf_image_length hn h

theorem Ready.putsOutChunks {f : Fam} {n : Lanes} {s : State} (hr : Ready s f n) :
    PutsOutChunks (stepOf s.par f) (chunkSize f n) (InShape s.par f n) :=
  stepOf_putsOutChunks s.par hr.1

/-! ## Steps one after another (46_byte_adapter.md R353) -/

/-- `k` steps one after another: the last instance, and the images of all of them in order. -/
def runSteps (step : StepFn) : (k : Nat) → Inst → Inst × List Byte
  | 0, i => (i, [])
  | k + 1, i =>
    let r := step i
    let t := runSteps step k r.1
    (t.1, r.2 ++ t.2)

theorem runSteps_zero (step : StepFn) (i : Inst) : runSteps step 0 i = (i, []) := rfl

theorem runSteps_succ (step : StepFn) (k : Nat) (i : Inst) :
    runSteps step (k + 1) i = ((runSteps step k (step i).1).1, (step i).2 ++ (runSteps step k (step i).1).2) := rfl

theorem runSteps_add (step : StepFn) (a b : Nat) (i : Inst) :
    runSteps step (a + b) i =
      ((runSteps step b (runSteps step a i).1).1,
        (runSteps step a i).2 ++ (runSteps step b (runSteps step a i).1).2) := by
  induction a generalizing i with
  | zero => simp [runSteps_zero]
  | succ a ih => rw [Nat.succ_add, runSteps_succ, ih, runSteps_succ, List.append_assoc]

/-- GENs one after another, with their checks passed, are the family's steps one after another (47_control.md R364). -/
theorem execTimes_gen {f : Fam} {n : Lanes} {s : State} (hr : Ready s f n) (k : Nat) :
    execTimes (Instr.gen f n) k s = some { s with
      inst := (runSteps (stepOf s.par f) k s.inst).1
      out := s.out ++ (runSteps (stepOf s.par f) k s.inst).2 } := by
  induction k generalizing s with
  | zero => simp [execTimes, runSteps_zero]
  | succ k ih =>
    rw [execTimes, exec_gen_of_step hr Prod.mk.eta.symm, runSteps_succ, ← List.append_assoc]
    exact ih hr

/-! ## The number of steps of a FILL (46_byte_adapter.md R351) -/

theorem mul_add_ceilDiv {VB : Nat} (hVB : 0 < VB) (q L : Nat) : (VB * q + L) ⌈/⌉ VB = q + L ⌈/⌉ VB := by
  rw [Nat.ceilDiv_eq_add_pred_div, Nat.ceilDiv_eq_add_pred_div, ← Nat.mul_add_div hVB]
  congr 1
  omega

theorem ceilDiv_of_ne_zero {VB rem : Nat} (hVB : 0 < VB) (hr : rem ≠ 0) :
    rem ⌈/⌉ VB = (rem - VB) ⌈/⌉ VB + 1 := by
  by_cases hle : VB ≤ rem
  · have hrem : rem = VB * 1 + (rem - VB) := by omega
    calc rem ⌈/⌉ VB = (VB * 1 + (rem - VB)) ⌈/⌉ VB := by rw [← hrem]
      _ = (rem - VB) ⌈/⌉ VB + 1 := by rw [mul_add_ceilDiv hVB, Nat.add_comm]
  · have hcut : rem - VB = 0 := by omega
    rw [hcut, zero_ceilDiv, Nat.ceilDiv_eq_add_pred_div]
    exact Nat.div_eq_of_lt_le (by omega) (by omega)

section
variable {step : StepFn} {VB : Nat} {P : Inst → Prop} {i : Inst}

theorem PutsOutChunks.runSteps_keeps (hstep : PutsOutChunks step VB P) (k : Nat) (h : P i) : P (runSteps step k i).1 := by
  induction k generalizing i with
  | zero => exact h
  | succ k ih => exact ih (hstep.keeps i h)

theorem PutsOutChunks.runSteps_length (hstep : PutsOutChunks step VB P) (k : Nat) (h : P i) :
    (runSteps step k i).2.length = VB * k := by
  induction k generalizing i with
  | zero => rfl
  | succ k ih =>
    rw [runSteps_succ, List.length_append, hstep.image_length i h, ih (hstep.keeps i h), Nat.mul_succ, Nat.add_comm]

/-- FILL's loop, with fuel for every byte, is ⌈rem / VB⌉ steps with their bytes cut to `rem` (46_byte_adapter.md R350,
R353). -/
theorem PutsOutChunks.fillLoop_eq (hstep : PutsOutChunks step VB P) (hVB : 0 < VB) {fuel rem : Nat} (hf : rem ≤ fuel)
    (h : P i) :
    fillLoop step fuel rem i =
      ((runSteps step (rem ⌈/⌉ VB) i).1, (runSteps step (rem ⌈/⌉ VB) i).2.take rem) := by
  induction fuel generalizing rem i with
  | zero =>
    obtain rfl : rem = 0 := by omega
    rw [fillLoop_zero, zero_ceilDiv, runSteps_zero, List.take_nil]
  | succ fuel ih =>
    by_cases hr : rem = 0
    · rw [hr, fillLoop_zero, zero_ceilDiv, runSteps_zero, List.take_nil]
    · have hlen : (step i).2.length = VB := hstep.image_length i h
      have hrest : rem - min (step i).2.length rem = rem - VB := by omega
      rw [fillLoop_succ step fuel hr, hrest, ih (by omega) (hstep.keeps i h), ceilDiv_of_ne_zero hVB hr, runSteps_succ,
        List.take_append, hlen]

end

/-! ## FILL (46_byte_adapter.md R350 to R353) -/

/-- FILL with its checks passed. -/
theorem exec_fill_of_ready {f : Fam} {n : Lanes} {s : State} (hr : Ready s f n) :
    exec (Instr.fill f n) s = .next { s with
      inst := (fillLoop (stepOf s.par f) s.len.toNat s.len.toNat s.inst).1
      out := s.out ++ (fillLoop (stepOf s.par f) s.len.toNat s.len.toNat s.inst).2 } := by
  obtain ⟨hadm, herr, hvalid, hcfg⟩ := hr
  rw [exec_fill, State.fillWith_ok herr ((wf_fill f n).trans hadm) hvalid hcfg]

/-- FILL on registers of the family's shape: ⌈LEN / VB⌉ steps, with their bytes cut to LEN. -/
theorem exec_fill_eq_runSteps {f : Fam} {n : Lanes} {s : State} (hr : Ready s f n) (hs : HoldsShape s f n) :
    exec (Instr.fill f n) s = .next { s with
      inst := (runSteps (stepOf s.par f) (s.len.toNat ⌈/⌉ chunkSize f n) s.inst).1
      out := s.out ++ (runSteps (stepOf s.par f) (s.len.toNat ⌈/⌉ chunkSize f n) s.inst).2.take s.len.toNat } := by
  rw [exec_fill_of_ready hr, hr.putsOutChunks.fillLoop_eq (chunkSize_pos f n) le_rfl (holdsShape_iff.1 hs)]

/-- Settles O36: GENs and FILL are the same steps, whose bytes are enough for LEN. -/
theorem fillIsTheFirstBytesOfSuccessiveGens : Obligations.FillIsTheFirstBytesOfSuccessiveGens := by
  intro f n s hr hs
  have hbytes : s.len.toNat ≤ (runSteps (stepOf s.par f) (s.len.toNat ⌈/⌉ chunkSize f n) s.inst).2.length := by
    rw [hr.putsOutChunks.runSteps_length _ (holdsShape_iff.1 hs)]
    exact le_smul_ceilDiv (chunkSize_pos f n)
  refine ⟨_, execTimes_gen hr _, ?_, ?_, List.prefix_append _ _⟩
  · rw [exec_fill_eq_runSteps hr hs, List.take_length_add_append]
    rfl
  · rw [List.length_take, List.length_append]
    exact Nat.min_eq_left (Nat.add_le_add_left hbytes _)

/-- FILL of whole chunks appends every byte of its steps (46_byte_adapter.md R351 (e)). -/
theorem exec_fill_of_whole_chunks {f : Fam} {n : Lanes} {s : State} {q : Nat} (hr : Ready s f n) (hs : HoldsShape s f n)
    (hq : s.len.toNat = chunkSize f n * q) :
    exec (Instr.fill f n) s = .next { s with
      inst := (runSteps (stepOf s.par f) q s.inst).1
      out := s.out ++ (runSteps (stepOf s.par f) q s.inst).2 } := by
  have hsteps : s.len.toNat ⌈/⌉ chunkSize f n = q := by rw [hq]; exact smul_ceilDiv (chunkSize_pos f n) q
  have hlen : (runSteps (stepOf s.par f) q s.inst).2.length = s.len.toNat := by
    rw [hr.putsOutChunks.runSteps_length q (holdsShape_iff.1 hs), hq]
  rw [exec_fill_eq_runSteps hr hs, hsteps, List.take_of_length_le hlen.le]

/-- Settles O37: the steps of the sum are those of L1, all of whose bytes are appended, and then those of L2. -/
theorem fillsOfWholeChunksCompose : Obligations.FillsOfWholeChunksCompose := by
  refine ⟨fun f n s hr hlen => ?_, fun f n s L1 L2 hr hs ⟨q, hq⟩ hlt => ?_⟩
  · have hzero : s.len.toNat = 0 := congrArg BitVec.toNat hlen
    rw [exec_fill_of_ready hr, hzero, fillLoop_zero, List.append_nil]
  · have hsum : (L1 + L2).toNat = chunkSize f n * q + L2.toNat := by
      rw [BitVec.toNat_add, Nat.mod_eq_of_lt hlt, hq]
    have hcut (bytes : List Byte) :
        ((runSteps (stepOf s.par f) q s.inst).2 ++ bytes).take (chunkSize f n * q + L2.toNat) =
          (runSteps (stepOf s.par f) q s.inst).2 ++ bytes.take L2.toNat := by
      rw [← hr.putsOutChunks.runSteps_length q (holdsShape_iff.1 hs), List.take_length_add_append]
    refine ⟨_, _, exec_fill_of_whole_chunks (s := { s with len := L1 }) hr hs hq,
      exec_fill_eq_runSteps hr (holdsShape_iff.2 (hr.putsOutChunks.runSteps_keeps q (holdsShape_iff.1 hs))), ?_⟩
    rw [exec_fill_eq_runSteps (s := { s with len := L1 + L2 }) hr hs]
    simp only [hsum, mul_add_ceilDiv (chunkSize_pos f n), runSteps_add, hcut, List.append_assoc]

end Sys2Proof.Machine
end

section
/-! O2, O3, O8 to O11 and O13: command issue and the register accesses (47_control.md R360 to R363, R368;
60_exceptions.md R381, R384; 70_reset_and_hazards.md R410). The step of a write is the effect of its offset; what a word
on CMD does is then a question about `issue` alone, and a recorded error is asked about once, in `exec_blocked`. -/

namespace Sys2Proof.Machine

/-! ## The control commands (47_control.md R361 to R363) -/

theorem exec_nop (s : State) : exec .nop s = .next s := rfl

theorem exec_clrerr (s : State) : exec .clrerr s = .next s.clearError := rfl

theorem exec_reset (s : State) : exec .reset s = .next s.softReset := rfl

/-- RESET restores all but OUT's history, the parameters and the model's own fields (47_control.md R363). -/
theorem State.softReset_eq (s : State) : s.softReset = { State.reset with
    par := s.par, out := s.out, host := s.host, ent := s.ent, draws := s.draws, pend := s.pend, rdata := s.rdata } := rfl

/-- The hardware reset restores OUT's history as well (70_reset_and_hazards.md R410). -/
theorem State.hardReset_eq (s : State) : s.hardReset = { State.reset with
    par := s.par, host := s.host, ent := s.ent, draws := s.draws, pend := s.pend, rdata := s.rdata } := rfl

/-- Settles O3, command by command. -/
theorem controlCommandsDoExactlyTheirEffect : Obligations.ControlCommandsDoExactlyTheirEffect :=
  fun s => ⟨exec_nop s, exec_clrerr s, (exec_reset s).trans (congrArg _ s.softReset_eq)⟩

/-- Settles O2: the action is taken where no seeding is pending, so that PEND too is as after reset. -/
theorem hardwareResetRestoresTheResetState : Obligations.HardwareResetRestoresTheResetState := by
  intro s rest h
  have hpend : s.pend = none := h.1
  have hstep : step s = .next (State.hardReset { s with host := rest }) := step_of_performs h
  rw [hstep, State.hardReset_eq, hpend]
  rfl

/-! ## What a word on CMD does (47_control.md R360) -/

section
variable {s : State} {w : Word}

theorem issue_of_decode {i : Instr} (h : decode w = .ok i) : issue w s = exec i s := by
  rw [issue, h]

theorem issue_of_illFormed (hw : ∀ i, decode w ≠ .ok i) (he : s.err = .none) :
    issue w s = .next (s.raise .illegal w 0) := by
  rcases issue_cases w s with ⟨i, hi, -⟩ | ⟨-, hne, -⟩ | ⟨-, -, heq⟩
  · exact absurd hi (hw i)
  · exact absurd he hne
  · exact heq

theorem decode_clrerr_iff : decode w = .ok .clrerr ↔ w = 0x60000000 :=
  decode_eq_ok_iff.trans ⟨fun h => h.2.symm, fun h => ⟨rfl, h.symm⟩⟩

theorem decode_reset_iff : decode w = .ok .reset ↔ w = 0x70000000 :=
  decode_eq_ok_iff.trans ⟨fun h => h.2.symm, fun h => ⟨rfl, h.symm⟩⟩

theorem issue_clrerr (s : State) : issue 0x60000000 s = .next s.clearError :=
  issue_of_decode (decode_clrerr_iff.2 rfl)

theorem issue_reset (s : State) : issue 0x70000000 s = .next s.softReset :=
  issue_of_decode (decode_reset_iff.2 rfl)

/-- A recorded error blocks every command but CLRERR and RESET (60_exceptions.md R384). -/
theorem exec_blocked {i : Instr} (he : s.err ≠ .none) (hclrerr : i ≠ .clrerr) (hreset : i ≠ .reset) :
    exec i s = .next s := by
  rcases Instr_cases i with rfl | rfl | rfl | ⟨f, n, hi⟩
  · exact exec_nop s
  · exact absurd rfl hclrerr
  · exact absurd rfl hreset
  · obtain ⟨effect, heq⟩ := exec_eq_command hi s
    rw [heq, State.command_blocked he]

/-- The same of the words: those of CLRERR and RESET are the only ones that decode to them. -/
theorem issue_blocked (he : s.err ≠ .none) (hclrerr : w ≠ 0x60000000) (hreset : w ≠ 0x70000000) :
    issue w s = .next s := by
  rcases issue_cases w s with ⟨i, hi, heq⟩ | ⟨-, -, heq⟩ | ⟨-, hnone, -⟩
  · rw [heq]
    refine exec_blocked he ?_ ?_
    · rintro rfl
      exact hclrerr (decode_clrerr_iff.1 hi)
    · rintro rfl
      exact hreset (decode_reset_iff.1 hi)
  · exact heq
  · exact absurd hnone he

end

/-! ## The step of a write (47_control.md R368, 20_memory.md R74) -/

section
variable {s : State} {v w : Word} {off : Nat} {rest : List HostAction}

theorem step_of_issues (h : Issues s w rest) : step s = issue w { s with host := rest } := step_of_performs h

theorem step_write (h : Performs s (.write off 32 v) rest) (ha : off % 4 = 0) (hb : off < 0x800) (h0 : off ≠ 0) :
    step s = .next (({ s with host := rest } : State).hostWrite off v) := by
  rw [step_of_performs h, act, if_neg h0]
  rcases access_cases off 32 (.next (({ s with host := rest } : State).hostWrite off v)) with
    ⟨hbad, -⟩ | ⟨-, -, hout, -⟩ | ⟨-, -, -, heq⟩
  · exact absurd hbad (by simp [ha])
  · exact absurd hb hout.not_gt
  · exact heq

theorem State.hostWrite_len (s : State) (v : Word) : s.hostWrite 0x010 v = { s with len := v } := rfl

/-- A write to SEEDIN: a byte past the FIFO's 2048 is dropped (20_memory.md R68, R69). -/
theorem State.hostWrite_seedIn (s : State) (v : Word) : s.hostWrite 0x014 v =
    { s with fifo := if s.fifo.length < 2048 then s.fifo ++ [v.setWidth 8] else s.fifo } := by
  change s.seedPush _ = _
  unfold State.seedPush fifoDepth
  split <;> rfl

theorem State.hostWrite_ignored (s : State) (v : Word) (hlen : off ≠ 0x010) (hseed : off ≠ 0x014) :
    s.hostWrite off v = s := by
  unfold State.hostWrite
  split
  · exact absurd rfl hlen
  · exact absurd rfl hseed
  · rfl

theorem step_write_len (h : Performs s (.write 0x010 32 v) rest) : step s = .next { s with host := rest, len := v } :=
  step_write h (by decide) (by decide) (by decide)

theorem step_write_seedIn (h : Performs s (.write 0x014 32 v) rest) : step s = .next { s with
    host := rest, fifo := if s.fifo.length < 2048 then s.fifo ++ [v.setWidth 8] else s.fifo } := by
  rw [step_write h (by decide) (by decide) (by decide), State.hostWrite_seedIn]

end

/-! ## The statements on issue and on accesses -/

/-- Settles O8. -/
theorem stepRunsTheDecodedCommand : Obligations.StepRunsTheDecodedCommand := by
  intro s w rest i h hi
  rw [step_of_issues h, issue_of_decode hi]

/-- Settles O9, one step of command issue after another. -/
theorem commandIssueFollowsItsFiveSteps : Obligations.CommandIssueFollowsItsFiveSteps := by
  intro s w rest h
  have hpend : s.pend = none := h.1
  rw [step_of_issues h]
  refine ⟨?_, ?_, fun hclrerr hreset he => ?_, fun _ _ he hw => ?_, fun _ _ _ i hi => ?_⟩
  · rintro rfl
    exact issue_clrerr _
  · rintro rfl
    rw [issue_reset, State.softReset_eq, hpend]
    rfl
  · exact issue_blocked he hclrerr hreset
  · exact issue_of_illFormed hw he
  · exact issue_of_decode hi

/-- Settles O10: the list's words are those outside R95, read off the fields as in O7. -/
theorem everyIllFormedWordRaisesIllegal : Obligations.EveryIllFormedWordRaisesIllegal := by
  intro s w rest h he hbad
  have hw : ∀ i, decode w ≠ .ok i := by
    intro i hi
    obtain ⟨hop, hzero, hcontrol, hfamily⟩ := (wellFormedWordsAreThoseOfTheFields.1 w).1 ⟨i, hi⟩
    rcases hbad with hop' | hzero' | ⟨hctl, hne⟩ | ⟨hlow, hhigh, hne⟩
    · omega
    · exact hzero' hzero
    · have := hcontrol hctl
      omega
    · obtain ⟨hfam, hfam', hln⟩ := hfamily ⟨hlow, hhigh⟩
      split at hln
      · omega
      · split at hln <;> omega
  rw [step_of_issues h]
  exact issue_of_illFormed hw he

/-- Settles O11: what `issue` does in an error, and the accesses, which do not ask for one. -/
theorem anErrorBlocksAllButClrerrAndReset : Obligations.AnErrorBlocksAllButClrerrAndReset := by
  intro s rest he
  refine ⟨fun w hclrerr hreset h => ?_, fun h => ?_, fun h => ?_, fun off hlt ha h => ?_, fun v h => ?_,
    fun v h hroom => ?_⟩
  · rw [step_of_issues h]
    exact issue_blocked he hclrerr hreset
  · rw [step_of_issues h]
    exact issue_clrerr _
  · exact ⟨_, (step_of_issues h).trans (issue_reset _), rfl, rfl, rfl⟩
  · exact ⟨_, step_read h ha hlt, rfl⟩
  · exact step_write_len h
  · rw [step_write_seedIn h, if_pos hroom]

/-- Settles O13, offset by offset. -/
theorem registerAccessesHaveTheirEffects : Obligations.RegisterAccessesHaveTheirEffects := by
  intro s off rest ha hlt
  refine ⟨fun v h => ⟨?_, ?_, ?_, fun h0 hlen hseed => ?_⟩, fun h => ⟨_, step_read h ha hlt⟩⟩
  · rintro rfl i hi
    exact stepRunsTheDecodedCommand s v rest i h hi
  · rintro rfl
    exact step_write_len h
  · rintro rfl
    exact step_write_seedIn h
  · rw [step_write h ha hlt h0, State.hostWrite_ignored _ v hlen hseed]

end Sys2Proof.Machine
end

section
/-! O16, O34 and O53: GEN and FILL of any family, and the lifecycle of the instance (47_control.md R364, R365;
70_reset_and_hazards.md R413). A seeding drops the old instance before anything else, so its outcome on a state is its
outcome on the state without one. -/

namespace Sys2Proof.Machine

/-! ## GEN and FILL (47_control.md R364, R365) -/

section
variable {s : State} {i : Instr} {c : Cfg} {effect : State → State}

theorem State.withInstance_notSeeded (he : s.err = .none) (hw : i.wf = true) (hv : s.valid = false) :
    s.withInstance i c effect = s.raise .notSeeded (encode i) 0 := by
  rw [State.withInstance, State.command_ok he hw, if_pos hv]

theorem State.withInstance_mismatch (he : s.err = .none) (hw : i.wf = true) (hv : s.valid = true) (hc : s.cfg ≠ c) :
    s.withInstance i c effect = s.raise .mismatch (encode i) 0 := by
  rw [State.withInstance, State.command_ok he hw, if_neg (by simp [hv]), if_pos hc]

end

/-- Settles O16: GEN and FILL make the same two checks. -/
theorem genAndFillCheckTheInstance : Obligations.GenAndFillCheckTheInstance := by
  intro f n s hadm he
  have hgen : (Instr.gen f n).wf = true := (wf_gen f n).trans hadm
  have hfill : (Instr.fill f n).wf = true := (wf_fill f n).trans hadm
  rw [exec_gen, exec_fill, State.genWith, State.fillWith]
  refine ⟨fun hv => ?_, fun hv hc => ?_⟩
  · rw [State.withInstance_notSeeded he hgen hv, State.withInstance_notSeeded he hfill hv]
    exact ⟨rfl, rfl⟩
  · rw [State.withInstance_mismatch he hgen hv hc, State.withInstance_mismatch he hfill hv hc]
    exact ⟨rfl, rfl⟩

/-- Settles O34: the family's step puts out one chunk and keeps the shape. -/
theorem genAppendsOneChunkAndKeepsTheShape : Obligations.GenAppendsOneChunkAndKeepsTheShape := by
  intro f n s hr hs
  have hstep := hr.putsOutChunks
  exact ⟨_, _, exec_gen_of_step hr rfl, hstep.image_length _ (holdsShape_iff.1 hs),
    holdsShape_iff.2 (hstep.keeps _ (holdsShape_iff.1 hs))⟩

/-! ## Who changes VALID and CFG (70_reset_and_hazards.md R413) -/

/-- The seedings that can drop the instance: all but the two that are E_UNSUPPORTED (45_seeding.md R342, R344). -/
def Reseeds (p : Params) (i : Instr) (f : Fam) (n : Lanes) : Prop :=
  i = Instr.seedRng f n ∨ (i = Instr.seedBlocks f n ∧ (f = .xoroshiro128ss ∨ f = .xoshiro256ss)) ∨
    (i = Instr.seedFixed f n ∧ f ∈ p.fixedSeed)

theorem Reseeds.seedingCommand {p : Params} {i : Instr} {f : Fam} {n : Lanes} (h : Reseeds p i f n) :
    SeedingCommand i f n := by
  rcases h with hi | ⟨hi, -⟩ | ⟨hi, -⟩
  · exact .inl hi
  · exact .inr (.inl hi)
  · exact .inr (.inr hi)

/-- VALID and CFG, which name the instance, are the same. -/
def SameInstance (s t : State) : Prop := t.valid = s.valid ∧ t.cfg = s.cfg

theorem State.withInstance_same {s : State} {effect : State → State} (h : SameInstance s (effect s)) (i : Instr)
    (c : Cfg) : SameInstance s (s.withInstance i c effect) := by
  rcases s.withInstance_cases i c effect with
    ⟨-, hx⟩ | ⟨-, -, hx⟩ | ⟨-, -, -, hx⟩ | ⟨-, -, -, -, hx⟩ | ⟨-, -, -, -, hx⟩ <;> rw [hx]
  case inr.inr.inr.inr => exact h
  all_goals exact ⟨rfl, rfl⟩

theorem exec_gen_or_fill_same {s t : State} {i : Instr} {f : Fam} {n : Lanes}
    (hi : i = Instr.gen f n ∨ i = Instr.fill f n) (hx : exec i s = .next t) : SameInstance s t := by
  rcases hi with rfl | rfl
  · obtain rfl := Host.Outcome.next.inj ((exec_gen f n s).symm.trans hx)
    exact State.withInstance_same ⟨rfl, rfl⟩ _ _
  · obtain rfl := Host.Outcome.next.inj ((exec_fill f n s).symm.trans hx)
    exact State.withInstance_same ⟨rfl, rfl⟩ _ _

/-- A seeding from the entropy source ends in the instance commanded or in none (45_seeding.md R346). -/
theorem SeedEnd.Ends.finish_instance {e : SeedEnd} {s : State} {P : List LaneVec → Prop} (h : e.Ends s.dropInstance P)
    (i : Instr) (c : Cfg) (post : List LaneVec → List LaneVec) :
    (e.finish i c post).valid = false ∨ (e.finish i c post).cfg = c := by
  rcases e.finish_cases i c post with ⟨S, -, hx⟩ | ⟨code, -, hx⟩ | ⟨-, hx⟩ <;> rw [hx]
  · exact .inr rfl
  · exact .inl h.drawn.valid_dropInstance
  · exact .inl h.drawn.valid_dropInstance

/-- What a seeding with nothing in its way does to VALID and CFG. -/
theorem exec_seeding_instance_unblocked {s t : State} {i : Instr} {f : Fam} {n : Lanes} (hi : SeedingCommand i f n)
    (he : s.err = .none) (hn : f.admits n = true) (hx : exec i s = .next t) :
    SameInstance s t ∨ (Reseeds s.par i f n ∧ (t.valid = false ∨ t.cfg = cfgOf f n)) := by
  rcases hi with rfl | rfl | rfl
  · obtain ⟨e, heq, hends⟩ := exec_seedRng_ends f n s hn he
    obtain rfl := Host.Outcome.next.inj (heq.symm.trans hx)
    exact .inr ⟨.inl rfl, hends.finish_instance _ _ _⟩
  · by_cases hf : f = .xoroshiro128ss ∨ f = .xoshiro256ss
    · obtain ⟨e, post, heq, hends⟩ := exec_seedBlocks_ends hf n s hn he
      obtain rfl := Host.Outcome.next.inj (heq.symm.trans hx)
      exact .inr ⟨.inr (.inl ⟨rfl, hf⟩), hends.finish_instance _ _ _⟩
    · obtain ⟨h1, h2⟩ := not_or.1 hf
      obtain rfl := Host.Outcome.next.inj ((seedBlocksOfOtherFamiliesIsUnsupported f n s h1 h2 hn he).symm.trans hx)
      exact .inl ⟨rfl, rfl⟩
  · rw [exec_seedFixed] at hx
    obtain rfl := Host.Outcome.next.inj hx
    rcases State.seedFixedWith_cases he ((wf_seedFixed f n).trans hn) f (cfgOf f n) (seedProcOf s.par f n) with
      ⟨-, heq⟩ | ⟨hf, -, heq⟩ | ⟨hf, -, -, heq⟩ <;> rw [heq]
    · exact .inl ⟨rfl, rfl⟩
    · exact .inr ⟨.inr (.inr ⟨rfl, hf⟩), .inl rfl⟩
    · exact .inr ⟨.inr (.inr ⟨rfl, hf⟩), .inr rfl⟩

/-- The same of any seeding: one that is blocked or ill-formed leaves the instance (47_control.md R360). -/
theorem exec_seeding_instance {s t : State} {i : Instr} {f : Fam} {n : Lanes} (hi : SeedingCommand i f n)
    (hx : exec i s = .next t) :
    SameInstance s t ∨ (Reseeds s.par i f n ∧ (t.valid = false ∨ t.cfg = cfgOf f n)) := by
  obtain ⟨effect, heq⟩ := exec_eq_command hi.family s
  obtain rfl := Host.Outcome.next.inj (heq.symm.trans hx)
  rcases s.command_cases i effect with ⟨-, hc⟩ | ⟨he, hw, -⟩ | ⟨-, -, hc⟩
  · rw [hc]
    exact .inl ⟨rfl, rfl⟩
  · exact exec_seeding_instance_unblocked hi he (hi.family.wf ▸ hw) hx
  · rw [hc]
    exact .inl ⟨rfl, rfl⟩

/-- Everything a command can do to VALID and CFG: nothing; RESET drops the instance; a seeding leaves its own or none. -/
theorem exec_instance_cases {s t : State} {i : Instr} (hx : exec i s = .next t) :
    SameInstance s t ∨ (i = .reset ∧ t.valid = false) ∨
      ∃ f n, Reseeds s.par i f n ∧ (t.valid = false ∨ t.cfg = cfgOf f n) := by
  have seeding {f n} (hi : SeedingCommand i f n) : SameInstance s t ∨ (i = .reset ∧ t.valid = false) ∨
      ∃ f n, Reseeds s.par i f n ∧ (t.valid = false ∨ t.cfg = cfgOf f n) :=
    (exec_seeding_instance hi hx).imp_right fun h => .inr ⟨f, n, h⟩
  rcases Instr_cases i with rfl | rfl | rfl | ⟨f, n, hi | hi | hi | hi | hi⟩
  · obtain rfl := Host.Outcome.next.inj ((exec_nop s).symm.trans hx)
    exact .inl ⟨rfl, rfl⟩
  · obtain rfl := Host.Outcome.next.inj ((exec_clrerr s).symm.trans hx)
    exact .inl ⟨rfl, rfl⟩
  · obtain rfl := Host.Outcome.next.inj ((exec_reset s).symm.trans hx)
    exact .inr (.inl ⟨rfl, rfl⟩)
  · exact seeding (.inl hi)
  · exact seeding (.inr (.inl hi))
  · exact seeding (.inr (.inr hi))
  · exact .inl (exec_gen_or_fill_same (.inl hi) hx)
  · exact .inl (exec_gen_or_fill_same (.inr hi) hx)

/-! ## Nothing of the old instance survives a seeding (70_reset_and_hazards.md R413) -/

/-- A command whose effect does not see the instance gives the same outcome without one. -/
theorem State.command_dropInstance {s : State} {i : Instr} {effect : State → State} (he : s.err = .none)
    (hw : i.wf = true) (h : effect s = effect s.dropInstance) : s.command i effect = s.dropInstance.command i effect := by
  rw [State.command_ok he hw, State.command_ok (s := s.dropInstance) he hw, h]

section
variable {s : State} {f : Fam} {n : Lanes} (hadm : f.admits n = true) (he : s.err = .none)
include hadm he

theorem exec_seedRng_dropInstance : exec (Instr.seedRng f n) s = exec (Instr.seedRng f n) s.dropInstance := by
  have hw : (Instr.seedRng f n).wf = true := (wf_seedRng f n).trans hadm
  by_cases h1 : f = .lfsr113
  · subst h1
    exact congrArg Host.Outcome.next (State.command_dropInstance he hw rfl)
  by_cases h2 : f = .lfsr258
  · subst h2
    exact congrArg Host.Outcome.next (State.command_dropInstance he hw rfl)
  · rw [exec_seedRng h1 h2, exec_seedRng h1 h2]
    exact congrArg Host.Outcome.next (State.command_dropInstance he hw rfl)

theorem exec_seedBlocks_dropInstance (hf : f = .xoroshiro128ss ∨ f = .xoshiro256ss) :
    exec (Instr.seedBlocks f n) s = exec (Instr.seedBlocks f n) s.dropInstance := by
  have hw : (Instr.seedBlocks f n).wf = true := (wf_seedBlocks f n).trans hadm
  rcases hf with rfl | rfl
  · exact congrArg Host.Outcome.next (State.command_dropInstance he hw rfl)
  · exact congrArg Host.Outcome.next (State.command_dropInstance he hw rfl)

/-- SEED_FIXED drops the instance once it has found the family supported (45_seeding.md R343, R344). -/
theorem exec_seedFixed_dropInstance (hf : f ∈ s.par.fixedSeed) :
    exec (Instr.seedFixed f n) s = exec (Instr.seedFixed f n) s.dropInstance := by
  have hw : (Instr.seedFixed f n).wf = true := (wf_seedFixed f n).trans hadm
  rw [exec_seedFixed, exec_seedFixed]
  refine congrArg Host.Outcome.next (State.command_dropInstance he hw ?_)
  exact (if_neg (not_not.2 hf)).trans (if_neg (not_not.2 hf)).symm

end

/-- Settles O53: the cases of VALID and CFG, and the seedings on a state that differs from `s` in the instance alone, which
is `s` once the instance is dropped. -/
theorem theInstanceHasItsLifecycle : Obligations.TheInstanceHasItsLifecycle := by
  refine ⟨fun i s t hx => ⟨fun hs ht => ?_, fun hs ht => ?_, ?_⟩, fun f n s c v j hadm he => ?_⟩
  · rcases exec_instance_cases hx with ⟨hv, -⟩ | ⟨-, hv⟩ | ⟨f, n, hi, hv | hc⟩
    · simp [hs, ht] at hv
    · simp [ht] at hv
    · simp [ht] at hv
    · exact ⟨f, n, hi.seedingCommand, hc⟩
  · rcases exec_instance_cases hx with ⟨hv, -⟩ | ⟨hi, -⟩ | ⟨f, n, hi, -⟩
    · simp [hs, ht] at hv
    · exact .inl hi
    · exact .inr ⟨f, n, hi⟩
  · rintro ⟨f, n, hi⟩
    exact exec_gen_or_fill_same hi hx
  · have he' : ({ s with cfg := c, valid := v, inst := j } : State).err = .none := he
    exact ⟨(exec_seedRng_dropInstance hadm he').trans (exec_seedRng_dropInstance hadm he).symm,
      fun hf => (exec_seedBlocks_dropInstance hadm he' hf).trans (exec_seedBlocks_dropInstance hadm he hf).symm,
      fun hf => (exec_seedFixed_dropInstance hadm he' hf).trans (exec_seedFixed_dropInstance hadm he hf).symm⟩

end Sys2Proof.Machine
end

section
/-! O29: the XSM families (43_jsf_lfsr_mwc_sfc_xsm.md R228, R229). The step moves every lane by `xsmLane`, which adds to words
0 and 1 as to one integer of 2W bits. -/

namespace Sys2Proof.Machine

/-! ## One lane -/

/-- An addition in two halves modulo `M`, the low one giving a carry to the high one. -/
theorem add_halves_mod {M a b x y : Nat} (ha : a < M) (hx : x < M) :
    (a + x) % M + M * ((b + y + (if (a + x) % M < a then 1 else 0)) % M) = (a + M * b + x + M * y) % (M * M) := by
  have hcarry : (a + x) / M = if (a + x) % M < a then 1 else 0 := by
    rcases Nat.lt_or_ge (a + x) M with hlt | hge
    · rw [Nat.mod_eq_of_lt hlt, if_neg (by omega), Nat.div_eq_of_lt hlt]
    · have hmod : (a + x) % M = a + x - M := by
        rw [Nat.mod_eq_sub_mod hge, Nat.mod_eq_of_lt (by omega)]
      rw [if_pos (by omega)]
      exact Nat.div_eq_of_lt_le (by omega) (by omega)
  have hsum : a + M * b + x + M * y = (a + x) + M * (b + y) := by ring
  rw [hsum, Nat.mod_mul, Nat.add_mul_mod_self_left, Nat.add_mul_div_left _ _ (Nat.zero_lt_of_lt ha), hcarry,
    Nat.add_comm (b + y)]

theorem xsmLane_length {W K : Nat} (hK : 2 ≤ K) (ws : List (BitVec W)) : (xsmLane K ws).1.length = K := by
  simp [xsmLane]; omega

/-- Words 0 and 1 as one integer of 2W bits (43_jsf_lfsr_mwc_sfc_xsm.md R228 (b), (c)). -/
theorem xsmLane_xsmStep {W K : Nat} (hW : 0 < W) (hK : 2 ≤ K) :
    Ref.XsmStep K (Config.xsmAddLow W) (Config.xsmAddHigh W) (xsmLane K) := by
  intro ws _
  refine ⟨xsmLane_length hK ws, ?_⟩
  have hone : 1 < 2 ^ W := Nat.one_lt_two_pow hW.ne'
  have hsq : 2 ^ (2 * W) = 2 ^ W * 2 ^ W := by rw [two_mul, pow_add]
  rw [hsq, ← add_halves_mod (ws.getD 0 0).isLt (Config.xsmAddLow W ws).isLt]
  simp only [xsmLane, List.getD_cons_zero, List.getD_cons_succ, BitVec.toNat_add]
  split <;> simp [Nat.mod_eq_of_lt hone]

/-! ## The lanes of the registers -/

/-- Word `k` of every lane. -/
def column {W : Nat} (ls : List (List (BitVec W))) (k : Nat) : Vec W := ls.map fun l => l.getD k 0

/-- The words of lane `j`, read across the columns, are the lane's. -/
theorem laneOf_columns {W K : Nat} {ls : List (List (BitVec W))} (hls : ∀ l ∈ ls, l.length = K) {j : Nat}
    (hj : j < ls.length) : laneOf ((List.range K).map (column ls)) j = ls[j] := by
  have hlen : ls[j].length = K := hls _ (List.getElem_mem hj)
  refine List.ext_getElem (by simp [laneOf, hlen]) fun k hk hk' => ?_
  simp [laneOf, column, hj, hk']

theorem xsm_columns {W K : Nat} (hK : 0 < K) {ls : List (List (BitVec W))} (hls : ∀ l ∈ ls, l.length = K) :
    xsm K ((List.range K).map (column ls)) =
      ((List.range K).map (column (ls.map fun l => (xsmLane K l).1)), ls.map fun l => (xsmLane K l).2) := by
  have hcount : (((List.range K).map (column ls)).headD []).length = ls.length := by
    obtain ⟨K, rfl⟩ := Nat.exists_eq_succ_of_ne_zero hK.ne'
    simp [List.range_succ_eq_map, column]
  have hlanes : (List.range ls.length).map (fun j => xsmLane K (laneOf ((List.range K).map (column ls)) j)) =
      ls.map (xsmLane K) := by
    refine List.ext_getElem (by simp) fun j hj hj' => ?_
    have hj : j < ls.length := by simpa using hj
    simp [laneOf_columns hls hj]
  simp only [xsm, hcount, hlanes]
  refine Prod.ext (List.map_congr_left fun k _ => ?_) (List.map_map ..)
  simp only [column, List.map_map, Function.comp_def]

section
variable {K : Nat} {i : Inst}

theorem Inst.range_s32_words32 {ls : List (List (BitVec 32))} (h : i.S = words32 K ls) :
    (List.range K).map i.s32 = (List.range K).map (column ls) :=
  List.map_congr_left fun k hk => by simp [Inst.s32, h, words32, List.mem_range.1 hk, LaneVec.as32, column]

theorem Inst.range_s64_words64 {ls : List (List (BitVec 64))} (h : i.S = words64 K ls) :
    (List.range K).map i.s64 = (List.range K).map (column ls) :=
  List.map_congr_left fun k hk => by simp [Inst.s64, h, words64, List.mem_range.1 hk, LaneVec.as64, column]

end

theorem stepXsm32_eq (p : Params) {i : Inst} {ls : List (List (BitVec 32))} (hls : ∀ l ∈ ls, l.length = p.xsmK)
    (h : i.S = words32 p.xsmK ls) :
    stepXsm32 p i = (i.put (words32 p.xsmK (ls.map fun l => (xsmLane p.xsmK l).1)),
      image (ls.map fun l => (xsmLane p.xsmK l).2)) := by
  rw [stepXsm32, Inst.range_s32_words32 h, xsm_columns (xsmK_pos p) hls, List.map_map]
  rfl

theorem stepXsm64_eq (p : Params) {i : Inst} {ls : List (List (BitVec 64))} (hls : ∀ l ∈ ls, l.length = p.xsmK)
    (h : i.S = words64 p.xsmK ls) :
    stepXsm64 p i = (i.put (words64 p.xsmK (ls.map fun l => (xsmLane p.xsmK l).1)),
      image (ls.map fun l => (xsmLane p.xsmK l).2)) := by
  rw [stepXsm64, Inst.range_s64_words64 h, xsm_columns (xsmK_pos p) hls, List.map_map]
  rfl

/-- Settles O29: the function is the model's own on one lane. -/
theorem genXsmStepsEveryLaneByOneFunction : Obligations.GenXsmStepsEveryLaneByOneFunction := by
  refine ⟨fun e => ⟨xsmLane (3 + e.val), xsmLane_xsmStep (by decide) (by omega), ?_⟩,
    fun e => ⟨xsmLane (3 + e.val), xsmLane_xsmStep (by decide) (by omega), ?_⟩⟩
  · rintro n s ls hr rfl hls hS
    exact exec_gen_of_step hr (stepXsm32_eq s.par hls hS)
  · rintro n s ls hr rfl hls hS
    exact exec_gen_of_step hr (stepXsm64_eq s.par hls hS)

end Sys2Proof.Machine
end
